-- ==== Sys2Proof/Word.lean ====
section
/-! DEFINITION. The words of the DZ-420: bytes, and the two helpers over fixed-length vectors that the
state's tables (peer records, sectors, bins) need. Plain data only. -/

namespace Sys2Proof

/-- A payload byte of a telegram (spec/01, section 1.9). -/
abbrev Byte := BitVec 8

/-- Apply `f` to every entry of a fixed-length table. Written over the underlying list, so that the
kernel evaluates it on numerals. -/
def vmap {α β : Type} {n : Nat} (f : α → β) (v : Vector α n) : Vector β n :=
  ⟨⟨v.toArray.toList.map f⟩, by simp⟩

/-- Combine two fixed-length tables entry by entry. -/
def vzip {α β γ : Type} {n : Nat} (f : α → β → γ) (v : Vector α n) (w : Vector β n) : Vector γ n :=
  ⟨⟨List.zipWith f v.toArray.toList w.toArray.toList⟩, by simp⟩

/-- `i`, or the last index where `i` lies beyond the table. -/
def capFin (n i : Nat) : Fin (n + 1) := ⟨min i n, by omega⟩

end Sys2Proof
end

