-- ==== Sys2Proof/Syntax.lean ====
section
/-! DEFINITION. The commands of the DZ-420: one constructor of `Instr` for each row of
spec/opcode_table.json, in the table's order. The table gives its rows no bits and no fields; the
operands are what the rule named beside each row takes from outside the station (a level, a sample, the
bits read on the line). What the station already holds is never an operand: a telegram that the
dispatcher takes is the oldest entry of the receive queue, an expiring timer is a field of the state. -/

namespace Sys2Proof

/-- Drive side strap (R24). -/
inductive DriveSide where
  | left | right
  deriving DecidableEq, Repr

/-- Body style strap (R24). -/
inductive BodyStyle where
  | fiveDoor | threeDoor
  deriving DecidableEq, Repr

/-- The six strap pins as sampled at power-on (R24). -/
structure Straps where
  position   : Fin 8
  driveSide  : DriveSide
  body       : BodyStyle
  rfAttached : Bool
  deriving DecidableEq, Repr

/-- Debounced positions of a two-stage window switch (R101). -/
inductive SwitchPos where
  | neutral | up1 | up2 | down1 | down2
  deriving DecidableEq, Repr

/-- Ignition as VEHICLE codes it (section 1.9). -/
inductive Ignition where
  | off | acc | on | crank
  deriving DecidableEq, Repr

/-- The two motors whose current the station senses (R54, R59, R110, R111). -/
inductive Motor where
  | latch | window
  deriving DecidableEq, Repr

/-- Where a motor's current stands against its two thresholds: below the open-load threshold (0.2 A at
the latch, 0.5 A at the window), between the two, or above the overcurrent threshold (8 A, 25 A). -/
inductive CurrentBand where
  | low | normal | high
  deriving DecidableEq, Repr

/-- The bits a receiver reads from the start bit's end to the last check bit, and the acknowledge field that the
other nodes drive after them: slot k is dominant where bit k of `slots` is set (section 1.2). -/
structure LineFrame where
  kind    : BitVec 4
  sender  : BitVec 3
  length  : BitVec 4
  payload : List Byte
  check   : Byte
  slots   : Byte
  deriving DecidableEq, Repr

/-- The two aborts a receiver recognises: a telegram cut short (R7) and a dominant bit in the end field
(R8). Each carries the bits read up to the check field, of which a telegram cut short has no slots; `bit` is the end bit that read dominant, 0 to 3. -/
inductive AbortCause where
  | cutShort (f : LineFrame)
  | dominantEndBit (f : LineFrame) (bit : Fin 4)
  deriving DecidableEq, Repr

/-- The two duplicate filter entries of a peer record (R28). -/
inductive FilterKind where
  | lockreq | windowreq
  deriving DecidableEq, Repr

/-- The switch inputs whose level change wakes the station (R180). -/
inductive SwitchInput where
  | latchSwitch | doorAjar | insideHandle | childSwitch | ownWindowSwitch | packContact
  deriving DecidableEq, Repr

/-- What is read once at power-on: the straps (R24), the first level of every debounced input (R44, R60,
R82, R95), the crash line (section 5.4) and the first supply sample (R176), in millivolts. -/
structure PowerOnInputs where
  straps          : Straps
  latchA          : Bool
  latchB          : Bool
  doorOpen        : Bool
  handlePulled    : Bool
  childSwitch     : Bool
  ownSwitch       : SwitchPos
  centralLock     : Bool
  centralUnlock   : Bool
  keyLock         : Bool
  keyUnlock       : Bool
  childButton     : Bool
  packSwitch      : Vector SwitchPos 4
  crashLine       : Bool
  supplyMillivolt : Nat
  deriving DecidableEq, Repr

/-- The commands: one constructor per row of spec/opcode_table.json. -/
inductive Instr where
  | powerOn (i : PowerOnInputs)
  | supplyComparatorChange (below : Bool)
  | brownOut
  | supplySample (millivolt : Nat)
  | attemptStart (recessiveBits : Nat)
  | arbitrationLoss
  | collision
  | attemptEnd (slots : Byte)
  | telegramReceived (f : LineFrame)
  | abort (cause : AbortCause)
  | isolationTimeout
  | lineStuck
  | stuckRelease
  | busWakeEdge
  | dispatchDiscard
  | stateTaken
  | vehicleTaken
  | faultTaken
  | serviceackTaken
  | lockreqLock
  | lockreqDeadlock
  | lockreqUnlock
  | lockreqChildOn
  | lockreqChildOff
  | windowreqManualUp
  | windowreqManualDown
  | windowreqAutoUp
  | windowreqAutoDown
  | windowreqStop
  | pinchTaken
  | searchTaken
  | crashTaken
  | serviceEnrol
  | serviceOption
  | serviceClearfault
  | serviceForgetWindow
  | fobLock
  | fobUnlock
  | fobTailgate
  | fobCloseAll
  | fobOpenAll
  | fobSearchReply
  | rfByte (value : Byte) (framingError : Bool)
  | rfGapTimeout
  | peerLost (node : Fin 8)
  | statePeriodExpiry
  | vehicleHoldExpiry
  | afterRunExpiry
  | filterLifeExpiry (node : Fin 8) (kind : FilterKind)
  | latchSwitchChange (a b : Bool)
  | overtravelEnd
  | overtravelCurrentStop
  | latchBrakeEnd
  | latchPulseLimit
  | latchPauseEnd
  | latchSupplyWaitExpiry
  | latchOvercurrent
  | regulateChopOff
  | regulationLimit
  | latchOpenLoad
  | doorAjarChange (isOpen : Bool)
  | deadlockWindowExpiry
  | relockExpiry
  | insideHandlePull (pulled : Bool)
  | centralLockButton (closed : Bool)
  | centralUnlockButton (closed : Bool)
  | keyLockTurn (closed : Bool)
  | keyUnlockTurn (closed : Bool)
  | secondTurnExpiry
  | releasePulseEnd
  | childSwitchChange (closed : Bool)
  | childPulseEnd
  | childButtonPress (closed : Bool)
  | crashLineActive
  | crashLineInactive
  | crashLineQualified
  | hallStep (sinceLast : Nat)
  | windowStall
  | coastEnd
  | windowSwitchChange (pos : SwitchPos)
  | packWindowSwitchChange (station : Fin 4) (pos : SwitchPos)
  | packRefreshExpiry (station : Fin 4)
  | packLeaseExpiry
  | spentHoldExpiry
  | windowBrakeEnd
  | rampStep
  | supplyExcursion
  | windowOvercurrent
  | windowOpenLoad
  | thermalHeatTick
  | thermalCoolTick
  | reversalCounterReset
  | globalLeaseExpiry
  | globalSpentHoldExpiry
  | scanPeriodStart
  | measurementEnd (cycles : Nat)
  | touchStuckExpiry (electrode : Fin 3)
  | wakeWaitEnd
  | slotStart (slot : Fin 6)
  | slotEnd (currentReached : Bool)
  | collectingStart
  | collectionEnd
  | quietTimerExpiry
  | settleExpiry
  | nvmWriteStart
  | nvmWriteEnd (readBackMatches : Bool)
  | plainCheckError (f : LineFrame)
  | switchInputWake (input : SwitchInput)
  | motorCurrentChange (motor : Motor) (band : CurrentBand)
  | chopPeriodStart
  deriving DecidableEq, Repr

end Sys2Proof
end

