-- ==== Sys2Proof/WellFormed.lean ====
section
/-! DEFINITION. Which commands are well formed: what an operand can hold that the outside can bring. The
meanings are total and answer on every command; nothing rests on these checks but the statements that
name them. -/

namespace Sys2Proof

/-- A frame as the line brings it: the payload has the announced number of bytes (R7). -/
def LineFrame.wf (f : LineFrame) : Bool := f.payload.length == f.length.toNat

/-- The bits of an abort are those of a frame. -/
def AbortCause.wf : AbortCause → Bool
  | .cutShort f => f.wf
  | .dominantEndBit f _ => f.wf

/-- Why a command is not well formed. -/
inductive Ill where
  | payloadLength | cycles | supplyRange | noSuchNode
  deriving DecidableEq, Repr

/-- The first check that a command fails. A measurement ends after at most 5 ms of 1 µs cycles (R143); a
supply input lies within 0 to 65535 mV; the roster's filter rows name a node that has filters (R28). -/
def Instr.ill : Instr → Option Ill
  | .telegramReceived f => if f.wf then none else some .payloadLength
  | .plainCheckError f => if f.wf then none else some .payloadLength
  | .abort c => if c.wf then none else some .payloadLength
  | .measurementEnd n => if n ≤ 5000 then none else some .cycles
  | .supplySample v => if v ≤ 65535 then none else some .supplyRange
  | .powerOn i => if i.supplyMillivolt ≤ 65535 then none else some .supplyRange
  | .filterLifeExpiry n _ => if n.val ≤ 4 then none else some .noSuchNode
  | _ => none

/-- The command is well formed. -/
def Instr.wf (i : Instr) : Bool := i.ill.isNone

end Sys2Proof
end

