-- ==== Sys2Proof/Config.lean ====
section
/-! DEFINITION. What is fixed for the model and not stated as a value of the hardware: the length of the
idle step and the capacities of the two queues. The spec leaves no computed value undefined, so no free
value stands here (INVENTORY.md, What the manual leaves open). -/

namespace Sys2Proof.Config

/-- Microseconds that pass in one step on an empty queue: one tick of the 1 MHz timer reference
(spec/00, Time base). DESIGN CHOICE, notes/assumptions/5.md. -/
def tick : Nat := 1

/-- Transmit queue capacity (R12). -/
def txCapacity : Nat := 6

/-- Receive queue capacity (R17). -/
def rxCapacity : Nat := 4

end Sys2Proof.Config
end

