-- ==== Sys2Proof/Machine/State.lean ====
section
/-! DEFINITION. The state of one DZ-420 station as plain data, and the state after reset. Every field
follows the record table of the chapter that owns it (INVENTORY.md names the rule of each). Times are in
microseconds. A timer written as a bare `Nat` or under `some` counts up from 0 unless its docstring says
that it holds what remains. -/

namespace Sys2Proof.Machine

/-! ## Names -/

/-- Latch positions as observed (R43). -/
inductive LatchPos where
  | unlocked | locked | deadlocked | unknown
  deriving DecidableEq, Repr

/-- Latch targets (section 3.2). -/
inductive LatchTarget where
  | unlocked | locked | deadlocked
  deriving DecidableEq, Repr

/-- Latch phases (section 3.2). -/
inductive LatchPhase where
  | idle | drive | overtravel | regulate | brake | pause | failed
  deriving DecidableEq, Repr

/-- Directions of the latch motor: forward toward DEADLOCKED, back toward UNLOCKED. -/
inductive LatchDir where
  | forward | back
  deriving DecidableEq, Repr

/-- The driving phase entered after a brake or a supply wait (section 3.2). -/
inductive DrivePhase where
  | drive | regulate
  deriving DecidableEq, Repr

/-- Regulation limits: 1.2 s, and 2.0 s for a crash pursuit (R55, R56). -/
inductive RegLimit where
  | normal | crash
  deriving DecidableEq, Repr

/-- Link states (section 1.8). -/
inductive LinkState where
  | joining | joined | isolated | stuck
  deriving DecidableEq, Repr

/-- Presence of a node (R28). -/
inductive Presence where
  | neverHeard | present | asleep | lost
  deriving DecidableEq, Repr

/-- Window classes (R100). -/
inductive WindowClass where
  | absent | stopped | movingUp | movingDown | reversing | halted | supplyPause | globalRefused
  deriving DecidableEq, Repr

/-- Knowledge states (section 6.1). -/
inductive Knowledge where
  | unpositioned | bottomKnown | positioned
  deriving DecidableEq, Repr

/-- Last verdict (section 10.1); `d` is a door slot. -/
inductive Verdict where
  | none | notFound | inside
  | outsideAt (d : Fin 5)
  | outsideNear (d : Fin 5)
  deriving DecidableEq, Repr

/-- Refusal codes (section 4.1). -/
inductive RefusalCode where
  | none | crashHold | keyInside | notSent
  deriving DecidableEq, Repr

/-- Central actions (spec/04). -/
inductive CentralAction where
  | lock | deadlock | unlock
  deriving DecidableEq, Repr

/-- Causes of a central action: the LOCKREQ causes of section 1.9 and the local ones of R70, R73, R75. -/
inductive LockCause where
  | insideButton | keyCylinder | keyless | fobButton | autoRelock | driveAway
  deriving DecidableEq, Repr

/-- Source of the last central action applied (section 4.1). -/
inductive ActionSource where
  | none
  | node (n : Fin 8) (sequence : Byte)
  | fob (f : Fin 4) (counter : BitVec 24)
  | autoRelock
  | driveAway
  deriving DecidableEq, Repr

/-- Fault kinds, in the order of their codes (section 1.9). -/
inductive FaultKind where
  | config | busNoack | busStuck | busIsolated | txOverflow | latchTimeout | latchOvercurrent
  | latchOpenLoad | childActuator | windowOvercurrent | windowHall | windowTravel | windowOpenLoad
  | lfOpen | touchOverflow | nvmWrite
  deriving DecidableEq, Repr

/-- Window directions. -/
inductive Dir where
  | up | down
  deriving DecidableEq, Repr

/-- Window bridge phases (section 6.1). -/
inductive Bridge where
  | off | drive | brake
  deriving DecidableEq, Repr

/-- Move kinds (section 6.4). -/
inductive MoveKind where
  | manual | auto | global | reversal
  deriving DecidableEq, Repr

/-- Move sources (section 6.4). -/
inductive MoveSource where
  | ownSwitch | pack | fob | pinch
  deriving DecidableEq, Repr

/-- Target ends of a move (section 6.4). -/
inductive TargetEnd where
  | none | top | bottom
  | step (p : Nat)
  deriving DecidableEq, Repr

/-- Stop reasons (section 6.1). -/
inductive StopReason where
  | none | halted | supply | globalRefused
  deriving DecidableEq, Repr

/-- Accumulation modes of the pinch monitor (R117). -/
inductive AccMode where
  | none | sector | bin
  deriving DecidableEq, Repr

/-- Touch zones (R142). -/
inductive Zone where
  | unlock | lock | release
  deriving DecidableEq, Repr

/-- Search phases (section 10.1). -/
inductive SearchPhase where
  | idle | pending | inFlight | collecting
  deriving DecidableEq, Repr

/-- The wake wait of R155: stopped, its first 5 ms, waiting for the queued STATE's attempt to end, its
second 5 ms. -/
inductive WakeWait where
  | stopped
  | first (elapsed : Nat)
  | awaitState
  | second (elapsed : Nat)
  deriving DecidableEq, Repr

/-- RF frame receiver states (R166). -/
inductive RfPhase where
  | idle | assembling | quiet
  deriving DecidableEq, Repr

/-- Sleep entry phases (section 12.2). -/
inductive EntryPhase where
  | none | announcing | settling
  deriving DecidableEq, Repr

/-- The level of the line (R1), and the one that the station read last outside a telegram. -/
inductive LineLevel where
  | recessive | dominant
  deriving DecidableEq, Repr

/-- Crash line qualification (section 5.4). -/
inductive CrashLine where
  | inactive
  | active (elapsed : Nat)
  | qualified
  deriving DecidableEq, Repr

/-- SERVICE subtypes (section 1.9). -/
inductive Subtype where
  | enrol | option | clearfault | forgetWindow
  deriving DecidableEq, Repr

/-- Names of the stored records (section 12.4). -/
inductive RecordName where
  | optionSet | windowRecord
  | fobEntry (f : Fin 4)
  deriving DecidableEq, Repr

/-! ## Telegrams and STATE contents -/

/-- A telegram: kind, sender and payload bytes (section 1.2). -/
structure Telegram where
  kind    : BitVec 4
  sender  : BitVec 3
  payload : List Byte
  deriving DecidableEq, Repr

/-- The contents of a STATE telegram (section 1.9, R28). -/
structure StateContents where
  doorOpen  : Bool
  sleeping  : Bool
  crashHold : Bool
  childOn   : Bool
  joining   : Bool
  observed  : LatchPos
  target    : LatchTarget
  windowClass : WindowClass
  knowledge : Knowledge
  percent   : Byte
  source    : Byte
  sequence  : Byte
  summary   : BitVec 16
  verdict   : Verdict
  refusal   : RefusalCode
  deriving DecidableEq, Repr

/-! ## Blocks -/

/-- Debounced local inputs that no other record holds. `wakeDebounce` is the input whose level change
woke the station, with the time since the wake (R180). -/
structure Pins where
  doorOpen      : Bool
  handlePulled  : Bool
  ownSwitch     : SwitchPos
  centralLock   : Bool
  centralUnlock : Bool
  keyLock       : Bool
  keyUnlock     : Bool
  childButton   : Bool
  packSwitch    : Vector SwitchPos 4
  wakeDebounce  : Option (SwitchInput × Nat)
  deriving DecidableEq, Repr

/-- A transmit queue entry (R10, R12). `waiting` is the newer telegram that takes the entry over when the
attempt in progress ends (R13, R14). -/
structure TxEntry where
  telegram  : Telegram
  attempts  : Nat
  missing   : Byte
  inAttempt : Bool
  waiting   : Option Telegram
  deriving DecidableEq, Repr

/-- A receive queue entry (R17). -/
structure RxEntry where
  telegram   : Telegram
  endInstant : Nat
  deriving DecidableEq, Repr

/-- A telegram that the dispatcher has taken: its end instant, and the instant of the taking. It tells
whether the receive queue had a free place at an acknowledge slot (R8; notes/assumptions/10.md). -/
structure TakenEntry where
  endInstant : Nat
  takenAt    : Nat
  deriving DecidableEq, Repr

/-- The zone bus link (spec/01). `ackDriven` is the acknowledge slot driven for the last telegram on the
line; `taken` holds the takings of the last 240 µs. `own` is the own telegram of a collided attempt while it
is still on the line (R6, R8). `level` is the level read last outside a telegram; `dominantFor` is how long it
has been dominant (R21), `recessiveFor` how long it has been recessive outside a telegram (R1), and `tailFor`
the recessive time at the end of the telegram before it, from which that run goes on (R22;
notes/assumptions/11.md). -/
structure Link where
  state          : LinkState
  synchronised   : Bool
  insideTelegram : Bool
  isolation      : Option Nat
  tx             : List TxEntry
  rx             : List RxEntry
  taken          : List TakenEntry
  ackDriven      : Option (Fin 8)
  own            : Option Telegram
  level          : LineLevel
  dominantFor    : Nat
  recessiveFor   : Nat
  tailFor        : Nat
  deriving DecidableEq, Repr

/-- A duplicate filter entry that is not empty: a sequence and its remaining life (R28). -/
structure FilterEntry where
  sequence : Byte
  life     : Nat
  deriving DecidableEq, Repr

/-- A peer record (R28). Age is in microseconds and is not counted while NEVER_HEARD. -/
structure Peer where
  presence        : Presence
  age             : Nat
  lastState       : Option StateContents
  lockreqFilter   : Option FilterEntry
  windowreqFilter : Option FilterEntry
  deriving DecidableEq, Repr

/-- The nodes that the roster showed PRESENT or ASLEEP, one flag per node, until an instant at which that
changed. -/
structure RosterPast where
  upTo  : Nat
  shown : Byte
  deriving DecidableEq, Repr

/-- The roster (spec/02): the peer records, the last placed STATE and the STATE period timer. `earlier` holds
what the roster showed before the changes of the last 80 µs, oldest first (R9; notes/assumptions/54.md). -/
structure Roster where
  peers      : Vector Peer 8
  lastPlaced : Option StateContents
  period     : Option Nat
  earlier    : List RosterPast
  deriving DecidableEq, Repr

/-- Vehicle status (section 2.5). `speed` is `none` for UNKNOWN; `hold` and `afterRun` hold what
remains. -/
structure Vehicle where
  speed    : Option Nat
  ignition : Ignition
  hold     : Option Nat
  offSeen  : Bool
  afterRun : Option Nat
  deriving DecidableEq, Repr

/-- The latch record (section 3.2), the current filter of R48 and R54 and the chop of R55.
`openLoad` is `none` when the check is done. `brakeForPassed` tells the brake of R49 from that of R46.
`chopTimer` is the time in the running 2 kHz period; `chopBegun` is clear from a change to REGULATE in
place until the next period starts (R54; notes/assumptions/50.md). -/
structure Latch where
  observed       : LatchPos
  target         : LatchTarget
  phase          : LatchPhase
  direction      : Option LatchDir
  attempt        : Nat
  pulseElapsed   : Nat
  regElapsed     : Nat
  regLimit       : RegLimit
  crashPursuit   : Bool
  resume         : DrivePhase
  phaseTimer     : Nat
  supplyWait     : Option Nat
  openLoad       : Option Nat
  brakeForPassed : Bool
  current        : CurrentBand
  overTime       : Nat
  chopTimer      : Nat
  chopBegun      : Bool
  chopOn         : Bool
  chopAbove      : Nat
  deriving DecidableEq, Repr

/-- The own LOCKREQ in flight (section 4.1). -/
structure OwnRequest where
  action    : CentralAction
  cause     : LockCause
  sequence  : Byte
  search    : Byte
  overtaken : Bool
  deriving DecidableEq, Repr

/-- The intent record and the sequence counter (section 4.1, R62). The deadlock window, relock timer and
second-turn timer hold what remains. -/
structure LockLogic where
  action         : Option CentralAction
  source         : ActionSource
  followUp       : Bool
  deadlockWindow : Option Nat
  relock         : Option Nat
  driveAwayArmed : Bool
  refusal        : RefusalCode
  inFlight       : Option OwnRequest
  secondTurn     : Option Nat
  sequence       : Byte
  deriving DecidableEq, Repr

/-- The release record of the tailgate (R80): `none` for IDLE, `some` pulse elapsed for PULSING. -/
structure Release where
  pulse : Option Nat
  deriving DecidableEq, Repr

/-- A running child actuator pulse (section 5.1). -/
structure ChildPulse where
  towardOn : Bool
  elapsed  : Nat
  deriving DecidableEq, Repr

/-- The child safety unit (section 5.1). `request` is the pending request, `true` for CHILD_ON. -/
structure Child where
  position : Bool
  pulse    : Option ChildPulse
  request  : Option Bool
  deriving DecidableEq, Repr

/-- Crash response (section 5.4). `due` is an own crash event that came about in SLEEP, or as the line went
inactive, and waits for the station (R89). -/
structure Crash where
  hold       : Bool
  ownNumber  : Byte
  lastNumber : Vector Byte 5
  line       : CrashLine
  due        : Bool
  deriving DecidableEq, Repr

/-- A run (section 6.1). `openLoad` is `none` when the check has ended. -/
structure Run where
  dir       : Dir
  ramp      : Nat
  rampTimer : Nat
  openLoad  : Option Nat
  stall     : Nat
  override  : Bool
  deriving DecidableEq, Repr

/-- The move record when it is not empty (section 6.4). `lease` holds what remains. -/
structure Move where
  kind   : MoveKind
  dir    : Dir
  source : MoveSource
  lease  : Option Nat
  target : TargetEnd
  deriving DecidableEq, Repr

/-- A hold of a direction with its remaining time (R103, R140). -/
structure Hold where
  dir       : Dir
  remaining : Nat
  deriving DecidableEq, Repr

/-- The window state (section 6.1, R140) and what the window record is written with (R112). -/
structure Window where
  knowledge     : Knowledge
  pTop          : Option Nat
  p             : Nat
  unexpected    : Nat
  bridge        : Bridge
  brakeTimer    : Nat
  lastDir       : Dir
  coast         : Option Nat
  run           : Option Run
  move          : Option Move
  stopReason    : StopReason
  heat          : Nat
  onTime        : Nat
  offTime       : Nat
  reversals     : Nat
  reversalReset : Option Nat
  spentHold     : Option Hold
  globalSpent   : Option Hold
  excursion     : Option Nat
  current       : CurrentBand
  overTime      : Nat
  restPosition  : Nat
  movingMarker  : Bool
  deriving DecidableEq, Repr

/-- The pack refresh timers, one for each of stations 0 to 3 (R102). -/
structure Pack where
  refresh : Vector (Option Nat) 4
  deriving DecidableEq, Repr

/-- A profile sector (section 7.1). -/
structure Sector where
  n     : Nat
  learn : Nat
  deriving DecidableEq, Repr

/-- A sum and a count of normalised periods (section 7.1). -/
structure Acc where
  sum   : Nat
  count : Nat
  deriving DecidableEq, Repr

/-- The fallback reference (R120). -/
structure Fallback where
  period : Nat
  supply : Nat
  deriving DecidableEq, Repr

/-- The pinch monitor (section 7.1). The period counter is in microseconds, `none` when stopped. -/
structure Pinch where
  profile   : Vector Sector 32
  counter   : Option Nat
  stepCount : Nat
  blanking  : Bool
  filtered  : Option Nat
  fallback  : Option Fallback
  count     : Nat
  mode      : AccMode
  sectorAcc : Vector Acc 32
  binAcc    : Vector Acc 64
  holding   : List (Fin 64 × Nat)
  deriving DecidableEq, Repr

/-- An electrode record (section 9.2). `touched` is the state TOUCHED. -/
structure Electrode where
  baseline  : Option Nat
  count     : Nat
  touched   : Bool
  onCount   : Nat
  offCount  : Nat
  touchTime : Option Nat
  discard   : Bool
  overflow  : Bool
  wakeMark  : Bool
  deriving DecidableEq, Repr

/-- The touch scanner (spec/09): electrode number `n` has index `n - 1`. `measureElapsed` is the time
since the start of the measurement in progress (R143). -/
structure Touch where
  electrodes  : Vector Electrode 3
  measuring   : Option (Fin 3)
  measureElapsed : Nat
  scanElapsed : Nat
  scanLength  : Nat
  cutShort    : Bool
  paused      : Bool
  deriving DecidableEq, Repr

/-- The search record (section 10.1). The verdict list is a table by fob number. `driving` is the slot
whose drive has started and whose end is awaited; slots below `nextSlot` have started or had passed when
the search was joined (R160). -/
structure Search where
  number     : Byte
  slots      : BitVec 6
  t0         : Option Nat
  phase      : SearchPhase
  wakeWait   : WakeWait
  awaited    : Bool
  touchZone  : Option Zone
  coilOpen   : Bool
  verdicts   : Vector (Option Verdict) 4
  localCount : Nat
  lastVerdict : Verdict
  driving    : Option (Fin 6)
  nextSlot   : Nat
  deriving DecidableEq, Repr

/-- A fob table entry (section 11.2). -/
structure Fob where
  enrolled  : Bool
  key       : BitVec 32
  counter   : BitVec 24
  lastTag   : Option (BitVec 32)
  candidate : Option (BitVec 24)
  deriving DecidableEq, Repr

/-- The RF frame receiver (R166). -/
structure Rf where
  phase : RfPhase
  bytes : List Byte
  gap   : Nat
  deriving DecidableEq, Repr

/-- The supply monitor (section 12.1, R177). -/
structure Supply where
  value         : Nat
  discard       : Bool
  sampleTimer   : Option Nat
  below         : Bool
  brownOutTimer : Option Nat
  heldInReset   : Bool
  deriving DecidableEq, Repr

/-- Power control (section 12.2, R35). -/
structure Power where
  asleep       : Bool
  entry        : EntryPhase
  quiet        : Nat
  settle       : Option Nat
  flagSent     : Bool
  sleepingFlag : Bool
  deriving DecidableEq, Repr

/-- A fault record that is not empty (section 12.3). `time` is in seconds. -/
structure FaultRecord where
  kind : FaultKind
  d0   : Byte
  d1   : Byte
  d2   : Byte
  time : Nat
  more : Nat
  deriving DecidableEq, Repr

/-- Fault capture (section 12.3); the time count is read from the clock. -/
structure Faults where
  record  : Option FaultRecord
  summary : BitVec 16
  deriving DecidableEq, Repr

/-- The option set (section 12.4). -/
structure OptionSet where
  selective : Bool
  driveAway : Bool
  regulate  : Bool
  relock    : Nat
  sTh       : Nat
  offsets   : Vector Int 6
  deriving DecidableEq, Repr

/-- Contents of the window record (section 12.4). -/
structure WindowRecord where
  knowledge    : Knowledge
  pTop         : Option Nat
  restPosition : Nat
  profile      : Vector Sector 32
  movingMarker : Bool
  deriving DecidableEq, Repr

/-- Contents of a fob entry (section 12.4). -/
structure FobRecord where
  enrolled : Bool
  key      : BitVec 32
  counter  : BitVec 24
  deriving DecidableEq, Repr

/-- The contents copied for a write (R184). -/
inductive RecordContents where
  | optionSet (o : OptionSet)
  | windowRecord (w : WindowRecord)
  | fobEntry (f : Fin 4) (e : FobRecord)
  deriving DecidableEq, Repr

/-- A write in progress (R184). -/
structure NvmWrite where
  contents : RecordContents
  elapsed  : Nat
  deriving DecidableEq, Repr

/-- The awaited service answer (section 11.6); `started` once a write of the record has started after the
SERVICE was applied (R175). -/
structure Awaited where
  subtype : Subtype
  record  : RecordName
  started : Bool
  deriving DecidableEq, Repr

/-- The non-volatile records, each with its stored check (R183). -/
structure Store where
  options      : OptionSet
  optionsCheck : Byte
  window       : WindowRecord
  windowCheck  : Byte
  fobs         : Vector FobRecord 4
  fobsCheck    : Vector Byte 4
  deriving DecidableEq, Repr

/-- The settings store (section 12.4). -/
structure Settings where
  options     : OptionSet
  optionImage : OptionSet
  writes      : List RecordName
  write       : Option NvmWrite
  awaited     : Option Awaited
  store       : Store
  deriving DecidableEq, Repr

/-- One station. `pending` holds the commands that wait, first in first out; `now` is the time since
power-on. -/
structure State where
  pending  : List Instr
  now      : Nat
  straps   : Straps
  pins     : Pins
  link     : Link
  roster   : Roster
  vehicle  : Vehicle
  latch    : Latch
  lock     : LockLogic
  release  : Release
  child    : Child
  crash    : Crash
  window   : Window
  pack     : Pack
  pinch    : Pinch
  touch    : Touch
  search   : Search
  fobs     : Vector Fob 4
  rf       : Rf
  supply   : Supply
  power    : Power
  faults   : Faults
  settings : Settings
  deriving DecidableEq, Repr

/-! ## How a step can stop -/

/-- Reasons for which the machine stops with a fault: there are none, so this type is empty. The block
has no exception entry and goes on after every event (a fault of the spec is a capture, an effect on the
state, R181). Safe: nothing can raise one. -/
inductive Fault where
  deriving DecidableEq, Repr

/-- Reasons for which a command is refused. -/
inductive Refusal where
  /-- A command without a meaning, by its mnemonic: raised only by an arm of `exec` that is not modelled,
  and there is none. Safe. -/
  | notModelled (mnemonic : String)
  deriving DecidableEq, Repr

/-! ## Reset -/

/-- An electrode record at power-on (R144). -/
def Electrode.initial : Electrode :=
  { baseline := none, count := 0, touched := false, onCount := 0, offCount := 0, touchTime := none,
    discard := true, overflow := false, wakeMark := false }

/-- A peer record at power-on (R28). -/
def Peer.initial : Peer :=
  { presence := .neverHeard, age := 0, lastState := none, lockreqFilter := none,
    windowreqFilter := none }

/-- The option set at its defaults (section 12.4). -/
def OptionSet.defaults : OptionSet :=
  { selective := true, driveAway := true, regulate := true, relock := 45, sTh := 38,
    offsets := Vector.replicate 6 0 }

/-- An unlearned profile (R116). -/
def unlearned : Vector Sector 32 := Vector.replicate 32 { n := 1, learn := 0 }

/-- The window record at its defaults (section 12.4). -/
def WindowRecord.defaults : WindowRecord :=
  { knowledge := .unpositioned, pTop := none, restPosition := 0, profile := unlearned,
    movingMarker := false }

/-- A fob entry at its defaults (section 12.4): not enrolled. That key and counter are then 0 is the
model's choice (notes/assumptions/46.md). -/
def FobRecord.defaults : FobRecord := { enrolled := false, key := 0, counter := 0 }

/-- A store as it leaves the factory: every record at its defaults, with the check that passes
(notes/assumptions/3.md; `Tests.test_factory_checks`). -/
def Store.factory : Store :=
  { options := OptionSet.defaults, optionsCheck := 0x11
    window := WindowRecord.defaults, windowCheck := 0xE0
    fobs := Vector.replicate 4 FobRecord.defaults, fobsCheck := Vector.replicate 4 0x16 }

/-- The contents of the first STATE of R26 at reset. -/
def StateContents.initial : StateContents :=
  { doorOpen := false, sleeping := false, crashHold := false, childOn := false, joining := true,
    observed := .unlocked, target := .unlocked, windowClass := .stopped, knowledge := .unpositioned,
    percent := 255, source := 255, sequence := 0, summary := 0, verdict := .none, refusal := .none }

/-- The station right after reset: the end of the power-on of R26 at a station strapped FL, LEFT,
FIVE_DOOR, RF no, with every input open, 13.0 V and a factory store (notes/assumptions/1.md, 2.md,
3.md). The first STATE of R26 step 5 stands in the transmit queue. The first scan period begins 10 ms later
(notes/assumptions/45.md). -/
def State.reset : State :=
  { pending := []
    now := 0
    straps := { position := 0, driveSide := .left, body := .fiveDoor, rfAttached := false }
    pins :=
      { doorOpen := false, handlePulled := false, ownSwitch := .neutral, centralLock := false,
        centralUnlock := false, keyLock := false, keyUnlock := false, childButton := false,
        packSwitch := Vector.replicate 4 .neutral, wakeDebounce := none }
    link :=
      { state := .joining, synchronised := false, insideTelegram := false, isolation := some 0,
        tx := [{ telegram := { kind := 8, sender := 0, payload := [16, 0, 16, 255, 255, 0, 0, 0, 0] },
                 attempts := 0, missing := 0, inAttempt := false, waiting := none }],
        rx := [], taken := [], ackDriven := none, own := none, level := .recessive, dominantFor := 0
        recessiveFor := 0, tailFor := 0 }
    roster :=
      { peers := Vector.replicate 8 Peer.initial, lastPlaced := some StateContents.initial,
        period := some 0, earlier := [] }
    vehicle := { speed := none, ignition := .off, hold := none, offSeen := true, afterRun := none }
    latch :=
      { observed := .unlocked, target := .unlocked, phase := .idle, direction := none, attempt := 1,
        pulseElapsed := 0, regElapsed := 0, regLimit := .normal, crashPursuit := false,
        resume := .drive, phaseTimer := 0, supplyWait := none, openLoad := none,
        brakeForPassed := false, current := .low, overTime := 0, chopTimer := 0,
        chopBegun := true, chopOn := true, chopAbove := 0 }
    lock :=
      { action := none, source := .none, followUp := false, deadlockWindow := none, relock := none,
        driveAwayArmed := false, refusal := .none, inFlight := none, secondTurn := none,
        sequence := 0 }
    release := { pulse := none }
    child := { position := false, pulse := none, request := none }
    crash := { hold := false, ownNumber := 0, lastNumber := Vector.replicate 5 0, line := .inactive
               due := false }
    window :=
      { knowledge := .unpositioned, pTop := none, p := 0, unexpected := 0, bridge := .off,
        brakeTimer := 0, lastDir := .down, coast := none, run := none, move := none,
        stopReason := .none, heat := 300, onTime := 0, offTime := 0, reversals := 0,
        reversalReset := none, spentHold := none, globalSpent := none, excursion := none,
        current := .low, overTime := 0, restPosition := 0, movingMarker := false }
    pack := { refresh := Vector.replicate 4 none }
    pinch :=
      { profile := unlearned, counter := none, stepCount := 0, blanking := true, filtered := none,
        fallback := none, count := 0, mode := .none, sectorAcc := Vector.replicate 32 ⟨0, 0⟩,
        binAcc := Vector.replicate 64 ⟨0, 0⟩, holding := [] }
    touch :=
      { electrodes := Vector.replicate 3 Electrode.initial, measuring := none, measureElapsed := 0,
        scanElapsed := 0, scanLength := 10000, cutShort := false, paused := false }
    search :=
      { number := 0, slots := 0, t0 := none, phase := .idle, wakeWait := .stopped, awaited := false,
        touchZone := none, coilOpen := false, verdicts := Vector.replicate 4 none, localCount := 1,
        lastVerdict := .none, driving := none, nextSlot := 0 }
    fobs :=
      Vector.replicate 4
        { enrolled := false, key := 0, counter := 0, lastTag := none, candidate := none }
    rf := { phase := .idle, bytes := [], gap := 0 }
    supply :=
      { value := 130, discard := false, sampleTimer := some 0, below := false, brownOutTimer := none,
        heldInReset := false }
    power :=
      { asleep := false, entry := .none, quiet := 0, settle := none, flagSent := false,
        sleepingFlag := false }
    faults := { record := none, summary := 0 }
    settings :=
      { options := OptionSet.defaults, optionImage := OptionSet.defaults, writes := [], write := none,
        awaited := none, store := Store.factory } }

end Sys2Proof.Machine
end

