-- ==== Sys2Proof/Machine/Timing.lean ====
section
/-! DEFINITION. The durations, thresholds and code numbers the spec states, each with its rule. Durations
are in microseconds. -/

namespace Sys2Proof.Machine

/-! ## Durations -/

/-- One bit on the line, 20 µs (R1). -/
def tBit : Nat := 20
/-- The end field, 4 bits (section 1.2). -/
def tEndField : Nat := 80
/-- 1 s awake without a telegram or a foreign acknowledge (R20). -/
def tIsolation : Nat := 1000000
/-- Dominant line that makes the link STUCK, 1 ms or 50 bits (R21). -/
def tStuck : Nat := 1000
/-- Recessive line that ends STUCK, 10 ms (R22). -/
def tStuckRelease : Nat := 10000
/-- STATE period, 100 ms (R34). -/
def tStatePeriod : Nat := 100000
/-- Age at which a PRESENT record becomes LOST, 350 ms (R31). -/
def tLost : Nat := 350000
/-- Saturation of the age, 65535 ms (R28). -/
def tAgeMax : Nat := 65535000
/-- Vehicle data hold, 2 s (R37). -/
def tVehicleHold : Nat := 2000000
/-- After-run, 45 s (R40). -/
def tAfterRun : Nat := 45000000
/-- Duplicate filter life, 500 ms (R41). -/
def tFilterLife : Nat := 500000
/-- Latch pulse limit of one attempt, 300 ms (R52). -/
def tPulseLimit : Nat := 300000
/-- Latch overtravel, 20 ms (R48). -/
def tOvertravel : Nat := 20000
/-- Latch brake, 50 ms (R46, R49). -/
def tLatchBrake : Nat := 50000
/-- Pause before attempt 2, 500 ms (R52). -/
def tPause : Nat := 500000
/-- Latch supply wait, 2 s (R50). -/
def tSupplyWait : Nat := 2000000
/-- Regulation limits, 1.2 s and 2.0 s (R55, R56). -/
def tRegLimit : RegLimit → Nat
  | .normal => 1200000
  | .crash => 2000000
/-- Latch overcurrent filter, 1 ms (R48, R54). -/
def tLatchOver : Nat := 1000
/-- Chop period, 500 µs (R55). -/
def tChopPeriod : Nat := 500
/-- Chop blanking, 40 µs (R55). -/
def tChopBlank : Nat := 40
/-- Chop deglitch, 24 µs (R55). -/
def tChopDeglitch : Nat := 24
/-- Open-load checks of both motors, 50 ms (R59, R111). -/
def tOpenLoad : Nat := 50000
/-- Deadlock window, 3 s (R67). -/
def tDeadlockWindow : Nat := 3000000
/-- Second-turn timer, 3 s (R78). -/
def tSecondTurn : Nat := 3000000
/-- Tailgate release pulse, 400 ms (R80). -/
def tRelease : Nat := 400000
/-- Child actuator pulse, 250 ms (R84). -/
def tChildPulse : Nat := 250000
/-- Crash line qualification, 2 ms (R89). -/
def tCrashLine : Nat := 2000
/-- Stall, 150 ms without a step (R98). -/
def tStall : Nat := 150000
/-- Coast counting, 50 ms (R96). -/
def tCoast : Nat := 50000
/-- Window brakes, 20 ms (R104, R112). -/
def tWindowBrake : Nat := 20000
/-- PACK lease and spent hold, 250 ms (R103). -/
def tPackLease : Nat := 250000
/-- Pack refresh, 100 ms (R102). -/
def tPackRefresh : Nat := 100000
/-- Soft start step, 10 ms (R109). -/
def tRampStep : Nat := 10000
/-- Supply excursion, 100 ms (R108). -/
def tExcursion : Nat := 100000
/-- Window overcurrent filter, 2 ms (R110). -/
def tWindowOver : Nat := 2000
/-- Heating period, 100 ms of DRIVE (R113). -/
def tHeat : Nat := 100000
/-- Cooling period, 2 s without DRIVE (R113). -/
def tCool : Nat := 2000000
/-- Reversal counter reset, 10 s (R115). -/
def tReversalReset : Nat := 10000000
/-- Global lease and global spent hold, 600 ms (R134, R140). -/
def tGlobalLease : Nat := 600000
/-- Saturation of the period counter, 65535 ticks of 8 µs (R118). -/
def tPeriodMax : Nat := 524280
/-- Scan period while AWAKE, 10 ms (R142). -/
def tScanAwake : Nat := 10000
/-- Scan period in SLEEP, 100 ms (R142). -/
def tScanSleep : Nat := 100000
/-- The longest measurement, 5 ms (R143). -/
def tMeasure : Nat := 5000
/-- Stuck touch, 30 s (R148). -/
def tTouchStuck : Nat := 30000000
/-- Each part of the wake wait, 5 ms (R155). -/
def tWakeWait : Nat := 5000
/-- Start of slot `k` after t0, 1 + 3k ms (R159). -/
def tSlotStart (k : Fin 6) : Nat := 1000 + 3000 * k.val
/-- End of IN_FLIGHT after t0, 18 ms (R159). -/
def tInFlight : Nat := 18000
/-- End of COLLECTING after t0, 120 ms (R162). -/
def tCollect : Nat := 120000
/-- RF inter-byte gap and quiet time, 3 ms (R166). -/
def tRfGap : Nat := 3000
/-- Supply sample period, 5 ms (R176). -/
def tSample : Nat := 5000
/-- Brown-out filter, 10 ms (R177). -/
def tBrownOut : Nat := 10000
/-- Quiet time, 2 s (R178). -/
def tQuiet : Nat := 2000000
/-- Settle time, 200 ms (R179). -/
def tSettle : Nat := 200000
/-- Non-volatile write, 8 ms (R184). -/
def tNvmWrite : Nat := 8000
/-- Debounce of a switch input: 5 ms at the latch and child switches (R43, R82), 10 ms elsewhere. -/
def tDebounce : SwitchInput → Nat
  | .latchSwitch => 5000
  | .childSwitch => 5000
  | .doorAjar => 10000
  | .insideHandle => 10000
  | .ownWindowSwitch => 10000
  | .packContact => 10000

/-! ## Telegram kinds (section 1.9) -/

def kCrash : BitVec 4 := 1
def kPinch : BitVec 4 := 2
def kLockreq : BitVec 4 := 3
def kWindowreq : BitVec 4 := 4
def kSearch : BitVec 4 := 5
def kFobreport : BitVec 4 := 6
def kVehicle : BitVec 4 := 7
def kState : BitVec 4 := 8
def kFault : BitVec 4 := 9
def kService : BitVec 4 := 10
def kServiceack : BitVec 4 := 11

/-! ## Localisation thresholds (R164) -/

def locTin : Nat := 120
def locMin : Nat := 12
def locTout : Nat := 60
def locMsep : Nat := 8

end Sys2Proof.Machine
end

