-- ==== Sys2Proof/Machine/Codec.lean ====
section
/-! DEFINITION. Bits, checks and payload layouts: the CRC-8 of R3, the CRC-32 of R169, the order of bits on
the line (R2) and the payloads of section 1.9 that a station sends. -/

namespace Sys2Proof.Machine

/-- The bits of a word, most significant first (R2). -/
def bitsMsb {w : Nat} (x : BitVec w) : List Bool :=
  (List.range w).map fun i => x.getLsbD (w - 1 - i)

/-- One bit into a CRC register: the three steps of R3, which R169 shares. -/
def crcStep {w : Nat} (poly reg : BitVec w) (bit : Bool) : BitVec w :=
  if reg.msb == bit then reg <<< 1 else (reg <<< 1) ^^^ poly

/-- CRC-8 with polynomial 1D hex, preset to all ones, no final inversion (R3). -/
def crc8 (bits : List Bool) : Byte := bits.foldl (crcStep 0x1D) 0xFF

/-- CRC-32 with polynomial 04C11DB7 hex, preset to the key, no final inversion (R169). -/
def crc32 (key : BitVec 32) (bits : List Bool) : BitVec 32 := bits.foldl (crcStep 0x04C11DB7) key

/-- The bits the check covers: arbitration, length and payload, in the order sent (R3). -/
def coveredBits (f : LineFrame) : List Bool :=
  bitsMsb f.kind ++ bitsMsb f.sender ++ bitsMsb f.length ++ f.payload.flatMap bitsMsb

/-- Whether the frame has the announced number of payload bytes and its check matches (R3, R7). -/
def checkPass (f : LineFrame) : Bool :=
  f.payload.length == f.length.toNat && crc8 (coveredBits f) == f.check

/-- The bits read from the start bit's end to the last check bit. -/
def readBits (f : LineFrame) : List Bool := coveredBits f ++ bitsMsb f.check

/-- A check error that ends a run of 10 or more recessive bits: the telegram has been cut short (R7). -/
def cutShort (f : LineFrame) : Bool :=
  !checkPass f && ((readBits f).reverse.take 10 == List.replicate 10 true)

/-- The recessive bits with which the bits read end. -/
def recessiveRun (bits : List Bool) : Nat := (bits.reverse.takeWhile id).length

/-- The recessive bits with which a frame ends at its check field. -/
def recessiveTail (f : LineFrame) : Nat := recessiveRun (readBits f)

/-- The bits of a telegram read through its end field: the bits to the check field, the acknowledge slots 0 to 7,
and four recessive end bits (section 1.2). -/
def completeBits (f : LineFrame) : List Bool :=
  readBits f ++ (List.range 8).map (fun k => !f.slots.getLsbD k) ++ List.replicate 4 true

/-- The telegram that a frame carries. -/
def frameTelegram (f : LineFrame) : Telegram :=
  { kind := f.kind, sender := f.sender, payload := f.payload }

/-- The frame a sender drives for a telegram, with no slot yet driven after it (R2, R3). -/
def telegramFrame (t : Telegram) : LineFrame :=
  let f : LineFrame :=
    { kind := t.kind, sender := t.sender, length := BitVec.ofNat 4 t.payload.length,
      payload := t.payload, check := 0, slots := 0 }
  { f with check := crc8 (coveredBits f) }

/-- The bits a sender drives: the start bit, dominant, and every bit through the check field (R2). -/
def drivenBits (t : Telegram) : List Bool := false :: readBits (telegramFrame t)

/-- Bits a telegram of `n` payload bytes occupies on the line (R2). -/
def telegramBits (n : Nat) : Nat := 32 + 8 * n

/-! ## Codes of section 1.9 -/

def latchPosCode : LatchPos → BitVec 4
  | .unlocked => 0 | .locked => 1 | .deadlocked => 2 | .unknown => 3

def latchPosOf (c : BitVec 4) : Option LatchPos :=
  if c = 0 then some .unlocked else if c = 1 then some .locked
  else if c = 2 then some .deadlocked else if c = 3 then some .unknown else none

def latchTargetCode : LatchTarget → BitVec 4
  | .unlocked => 0 | .locked => 1 | .deadlocked => 2

def latchTargetOf (c : BitVec 4) : Option LatchTarget :=
  if c = 0 then some .unlocked else if c = 1 then some .locked
  else if c = 2 then some .deadlocked else none

def windowClassCode : WindowClass → BitVec 4
  | .absent => 0 | .stopped => 1 | .movingUp => 2 | .movingDown => 3
  | .reversing => 4 | .halted => 5 | .supplyPause => 6 | .globalRefused => 7

def windowClassOf (c : BitVec 4) : Option WindowClass :=
  if c = 0 then some .absent else if c = 1 then some .stopped else if c = 2 then some .movingUp
  else if c = 3 then some .movingDown else if c = 4 then some .reversing
  else if c = 5 then some .halted else if c = 6 then some .supplyPause
  else if c = 7 then some .globalRefused else none

def knowledgeCode : Knowledge → BitVec 4
  | .unpositioned => 0 | .bottomKnown => 1 | .positioned => 2

def knowledgeOf (c : BitVec 4) : Option Knowledge :=
  if c = 0 then some .unpositioned else if c = 1 then some .bottomKnown
  else if c = 2 then some .positioned else none

def verdictCode : Verdict → BitVec 4
  | .none => 0 | .notFound => 1 | .inside => 2
  | .outsideAt d => BitVec.ofNat 4 (3 + d.val)
  | .outsideNear d => BitVec.ofNat 4 (8 + d.val)

def verdictOf (c : BitVec 4) : Option Verdict :=
  if c = 0 then some .none else if c = 1 then some .notFound else if c = 2 then some .inside
  else if c.toNat ≤ 7 then some (.outsideAt (capFin 4 (c.toNat - 3)))
  else if c.toNat ≤ 12 then some (.outsideNear (capFin 4 (c.toNat - 8))) else none

def refusalCode : RefusalCode → BitVec 4
  | .none => 0 | .crashHold => 1 | .keyInside => 2 | .notSent => 3

def refusalOf (c : BitVec 4) : Option RefusalCode :=
  if c = 0 then some .none else if c = 1 then some .crashHold
  else if c = 2 then some .keyInside else if c = 3 then some .notSent else none

def faultCode : FaultKind → Nat
  | .config => 0 | .busNoack => 1 | .busStuck => 2 | .busIsolated => 3 | .txOverflow => 4
  | .latchTimeout => 5 | .latchOvercurrent => 6 | .latchOpenLoad => 7 | .childActuator => 8
  | .windowOvercurrent => 9 | .windowHall => 10 | .windowTravel => 11 | .windowOpenLoad => 12
  | .lfOpen => 13 | .touchOverflow => 14 | .nvmWrite => 15

/-- A fault kind's flag in the summary: code `k` in bit `k` (section 1.9). -/
def faultFlag (k : FaultKind) : BitVec 16 := BitVec.twoPow 16 (faultCode k)

def moveKindCode : MoveKind → Byte
  | .manual => 0 | .auto => 1 | .global => 2 | .reversal => 3

def ignitionOf (b : Byte) : Option Ignition :=
  if b = 0 then some .off else if b = 1 then some .acc
  else if b = 2 then some .on else if b = 3 then some .crank else none

def zoneCode : Zone → Byte
  | .unlock => 1 | .lock => 2 | .release => 3

def zoneOf (b : Byte) : Option Zone :=
  if b = 1 then some .unlock else if b = 2 then some .lock
  else if b = 3 then some .release else none

def subtypeCode : Subtype → Byte
  | .enrol => 1 | .option => 2 | .clearfault => 3 | .forgetWindow => 4

def subtypeOf (b : Byte) : Option Subtype :=
  if b = 1 then some .enrol else if b = 2 then some .option
  else if b = 3 then some .clearfault else if b = 4 then some .forgetWindow else none

def centralActionCode : CentralAction → Byte
  | .lock => 1 | .deadlock => 2 | .unlock => 3

/-- The LOCKREQ cause code; the local causes are not sent on the bus and have none. -/
def lockCauseCode : LockCause → Byte
  | .insideButton => 1 | .keyCylinder => 2 | .keyless => 3
  | .fobButton => 0 | .autoRelock => 0 | .driveAway => 0

/-- SERVICEACK results. -/
def ackDone : Byte := 1
def ackRefused : Byte := 2
def ackNvmFail : Byte := 3
def ackBadArgument : Byte := 4

/-! ## STATE payload -/

/-- A byte from its upper and lower half. -/
def halves (hi lo : BitVec 4) : Byte := hi ++ lo

/-- The flags byte of STATE. -/
def stateFlags (c : StateContents) : Byte :=
  (0 : BitVec 3) ++ BitVec.ofBool c.joining ++ BitVec.ofBool c.childOn ++
    BitVec.ofBool c.crashHold ++ BitVec.ofBool c.sleeping ++ BitVec.ofBool c.doorOpen

/-- The nine payload bytes of a STATE (section 1.9). -/
def encodeState (c : StateContents) : List Byte :=
  [stateFlags c, halves (latchPosCode c.observed) (latchTargetCode c.target),
   halves (windowClassCode c.windowClass) (knowledgeCode c.knowledge), c.percent, c.source,
   c.sequence, c.summary.extractLsb' 8 8, c.summary.extractLsb' 0 8,
   halves (verdictCode c.verdict) (refusalCode c.refusal)]

/-- Whether a byte is a central action source of section 1.9. -/
def sourceListed (b : Byte) : Bool := b.toNat ≤ 13 || b == 255

/-- Whether a byte is a window percent of section 1.9. -/
def percentListed (b : Byte) : Bool := b.toNat ≤ 100 || b == 255

/-- The contents of a STATE payload; `none` where a byte holds a value that section 1.9 does not list. -/
def decodeState : List Byte → Option StateContents
  | [flags, b1, b2, percent, source, sequence, s1, s0, b8] => do
    let observed ← latchPosOf (b1.extractLsb' 4 4)
    let target ← latchTargetOf (b1.extractLsb' 0 4)
    let windowClass ← windowClassOf (b2.extractLsb' 4 4)
    let knowledge ← knowledgeOf (b2.extractLsb' 0 4)
    let verdict ← verdictOf (b8.extractLsb' 4 4)
    let refusal ← refusalOf (b8.extractLsb' 0 4)
    if flags.extractLsb' 5 3 = 0 && percentListed percent && sourceListed source then
      some { doorOpen := flags.getLsbD 0, sleeping := flags.getLsbD 1, crashHold := flags.getLsbD 2,
             childOn := flags.getLsbD 3, joining := flags.getLsbD 4, observed, target, windowClass,
             knowledge, percent, source, sequence, summary := s1 ++ s0, verdict, refusal }
    else none
  | _ => none

/-! ## Option set (section 1.9, OPTION argument; R172) -/

/-- A signed byte in two's complement. -/
def signedByte (b : Byte) : Int := b.toInt

/-- Whether ten OPTION argument bytes lie within their ranges (R172, test 1). -/
def optionBytesValid : List Byte → Bool
  | [flags, mode, relock, sTh, c0, c1, c2, c3, c4, c5] =>
    flags.extractLsb' 2 6 == 0 && mode.toNat ≤ 1 &&
    (relock == 0 || (30 ≤ relock.toNat && relock.toNat ≤ 120)) &&
    (20 ≤ sTh.toNat && sTh.toNat ≤ 80) &&
    [c0, c1, c2, c3, c4, c5].all fun c => -32 ≤ signedByte c && signedByte c ≤ 31
  | _ => false

/-- The option set that ten argument bytes spell. -/
def decodeOption : List Byte → Option OptionSet
  | [flags, mode, relock, sTh, c0, c1, c2, c3, c4, c5] =>
    some { selective := flags.getLsbD 0, driveAway := flags.getLsbD 1, regulate := mode == 1,
           relock := relock.toNat, sTh := sTh.toNat,
           offsets := #v[signedByte c0, signedByte c1, signedByte c2, signedByte c3, signedByte c4,
             signedByte c5] }
  | _ => none

/-- Whether an option set lies within the ranges of section 12.4 (R183). -/
def optionSetInRange (o : OptionSet) : Bool :=
  (o.relock == 0 || (30 ≤ o.relock && o.relock ≤ 120)) && (20 ≤ o.sTh && o.sTh ≤ 80) &&
  o.offsets.toArray.toList.all fun c => -32 ≤ c && c ≤ 31

/-! ## Stored records (section 12.4, R183) -/

/-- A number as a byte, and as two bytes with the most significant one first. -/
def natByte (n : Nat) : Byte := BitVec.ofNat 8 n
def natBytes (n : Nat) : List Byte := [natByte (n / 256), natByte n]

/-- The ten bytes of an option set, in the order of the OPTION argument (sections 1.9 and 12.4). -/
def optionBytes (o : OptionSet) : List Byte :=
  [(if o.selective then 1 else 0) ||| (if o.driveAway then 2 else 0), if o.regulate then 1 else 0,
   natByte o.relock, natByte o.sTh] ++ o.offsets.toArray.toList.map (BitVec.ofInt 8)

/-- The bytes of a window record: the contents in the order that section 12.4 names them, P_top behind a byte
that says whether it is there (notes/assumptions/17.md). -/
def windowBytes (w : WindowRecord) : List Byte :=
  [(knowledgeCode w.knowledge).setWidth 8, if w.pTop.isSome then 1 else 0] ++
  natBytes (w.pTop.getD 0) ++ natBytes w.restPosition ++
  w.profile.toArray.toList.flatMap (fun x => natBytes x.n ++ [natByte x.learn]) ++
  [if w.movingMarker then 1 else 0]

/-- The bytes of a fob entry: the contents in the order that section 12.4 names them
(notes/assumptions/17.md). -/
def fobBytes (e : FobRecord) : List Byte :=
  [if e.enrolled then 1 else 0, e.key.extractLsb' 24 8, e.key.extractLsb' 16 8, e.key.extractLsb' 8 8,
   e.key.extractLsb' 0 8, e.counter.extractLsb' 16 8, e.counter.extractLsb' 8 8, e.counter.extractLsb' 0 8]

/-- The bytes of a record in stored order. -/
def recordBytes : RecordContents → List Byte
  | .optionSet o => optionBytes o
  | .windowRecord w => windowBytes w
  | .fobEntry _ e => fobBytes e

/-- The check that a record is stored with: the CRC-8 of R3 over its contents (R183). -/
def recordCheck (c : RecordContents) : Byte := crc8 ((recordBytes c).flatMap bitsMsb)

/-! ## FOBREPORT payload (section 1.9, R169) -/

/-- Commands of a fob frame. -/
inductive FobCommand where
  | unlock | lock | tailgate | closeAll | openAll | searchReply
  deriving DecidableEq, Repr

def fobCommandOf (c : BitVec 4) : Option FobCommand :=
  if c = 1 then some .unlock else if c = 2 then some .lock else if c = 3 then some .tailgate
  else if c = 4 then some .closeAll else if c = 5 then some .openAll
  else if c = 6 then some .searchReply else none

/-- A fob report. `readings` holds r₀ to r₅ for a search reply and is empty otherwise. -/
structure FobReport where
  search   : Byte
  fob      : Fin 4
  command  : FobCommand
  fobByte  : Byte
  counter  : BitVec 24
  readings : List Byte
  tag      : BitVec 32
  deriving DecidableEq, Repr

/-- Whether a byte is a search number of section 1.9: 0, or a sender with a local count of 1 to 31. -/
def searchNumberListed (b : Byte) : Bool := b == 0 || b.extractLsb' 0 5 != 0

/-- The third byte of a fob frame: fob number, two zero bits, command (section 1.9). -/
def decodeFobByte (b : Byte) : Option (Fin 4 × FobCommand) :=
  if b.extractLsb' 4 2 = 0 then
    (fobCommandOf (b.extractLsb' 0 4)).map fun c => ((b.extractLsb' 6 2).toFin, c)
  else none

/-- The report that a FOBREPORT payload spells; `none` where it is not well formed. -/
def decodeFobReport : List Byte → Option FobReport
  | [sn, fb, c2, c1, c0, t3, t2, t1, t0] => do
    let (fob, command) ← decodeFobByte fb
    if sn = 0 && command != .searchReply then
      some { search := sn, fob, command, fobByte := fb, counter := c2 ++ c1 ++ c0, readings := [],
             tag := t3 ++ t2 ++ t1 ++ t0 }
    else none
  | [sn, fb, c2, c1, c0, r0, r1, r2, r3, r4, r5, t3, t2, t1, t0] => do
    let (fob, command) ← decodeFobByte fb
    if sn ≠ 0 && searchNumberListed sn && command == .searchReply then
      some { search := sn, fob, command, fobByte := fb, counter := c2 ++ c1 ++ c0,
             readings := [r0, r1, r2, r3, r4, r5], tag := t3 ++ t2 ++ t1 ++ t0 }
    else none
  | _ => none

/-- The bytes the fob code is computed over, in the order of R169. -/
def codedBytes (r : FobReport) : List Byte :=
  [r.fobByte, r.counter.extractLsb' 16 8, r.counter.extractLsb' 8 8, r.counter.extractLsb' 0 8,
   r.search] ++ r.readings

/-- The code of a report under a key (R169). -/
def fobCode (key : BitVec 32) (r : FobReport) : BitVec 32 :=
  crc32 key ((codedBytes r).flatMap bitsMsb)

end Sys2Proof.Machine
end

