-- ==== Sys2Proof/Machine/Flags.lean ====
section
/-! DEFINITION. What the station derives from its state: its configuration (R25), the fields of its own
STATE (R33, R100), the expected ackers (R9), the outputs of the bridges, and readiness for sleep (R178). -/

namespace Sys2Proof.Machine

/-! ## Configuration (R25) -/

/-- Membership of the expected set. -/
def expectedStation (b : BodyStyle) (n : Nat) : Bool :=
  match b with
  | .fiveDoor => n ≤ 4
  | .threeDoor => n == 0 || n == 1 || n == 4

/-- Whether the straps are valid (R25). -/
def strapsValid (t : Straps) : Bool := t.position.val ≤ 4 && expectedStation t.body t.position.val

/-- CONFIG_FAULT: the straps sampled at power-on are invalid (R27). -/
def configFault (s : State) : Bool := !strapsValid s.straps

/-- The own number (R25). -/
def ownNumber (s : State) : Fin 8 := s.straps.position

/-- The driver station's number (R25). -/
def driverNumber (t : Straps) : Fin 8 :=
  match t.driveSide with
  | .left => 0
  | .right => 1

def isDriverStation (s : State) : Bool := ownNumber s == driverNumber s.straps

/-- Rear stations carry the child actuator (section 5.1). -/
def isRear (s : State) : Bool := ownNumber s == 2 || ownNumber s == 3

def isTailgate (s : State) : Bool := ownNumber s == 4

/-- Whether station `n` is in this station's expected set. -/
def expected (s : State) (n : Nat) : Bool := expectedStation s.straps.body n

/-- Running: not held in reset by a brown-out (R177). -/
def running (s : State) : Bool := !s.supply.heldInReset

/-- Running with valid straps: the station acts on its inputs. -/
def operating (s : State) : Bool := running s && !configFault s

/-- Operating and AWAKE. -/
def active (s : State) : Bool := operating s && !s.power.asleep

/-- The window block has a motor to drive at stations 0 to 3 (spec/06). -/
def hasWindow (s : State) : Bool := operating s && !isTailgate s

/-- The link works standalone in ISOLATED and STUCK (R79). -/
def standalone (s : State) : Bool := s.link.state == .isolated || s.link.state == .stuck

/-- The time count of fault capture: seconds since power-on, saturating (section 12.3). -/
def timeCount (s : State) : Nat := min (s.now / 1000000) 65535

/-! ## Peer records -/

def peer (s : State) (n : Fin 8) : Peer := s.roster.peers[n]

/-- The nodes for which `f` holds, one flag per node. -/
def nodeSet (f : Fin 8 → Bool) : Byte :=
  (List.finRange 8).foldl (fun acc n => if f n then acc ||| BitVec.twoPow 8 n.val else acc) 0

/-- The nodes that the roster shows PRESENT or ASLEEP. -/
def shownNodes (s : State) : Byte :=
  nodeSet fun n => (peer s n).presence == .present || (peer s n).presence == .asleep

/-- The nodes that the roster showed PRESENT or ASLEEP `age` microseconds ago: those before the first change
since then. -/
def shownAt (age : Nat) (s : State) : Byte :=
  match s.roster.earlier.find? fun x => decide (s.now < x.upTo + age) with
  | some x => x.shown
  | none => shownNodes s

/-- The expected ackers as one flag per node (R9): stations of the expected set, other than the sender,
that the roster showed PRESENT or ASLEEP `age` microseconds ago. -/
def expectedAckers (age : Nat) (s : State) : Byte :=
  nodeSet fun n =>
    decide (n.val < 5) && expected s n.val && n != ownNumber s && (shownAt age s).getLsbD n.val

/-! ## Latch outputs (section 3.2) -/

/-- The position that a target names. -/
def targetPos : LatchTarget → LatchPos
  | .unlocked => .unlocked | .locked => .locked | .deadlocked => .deadlocked

/-- What the latch bridge does. -/
inductive BridgeOut where
  | off | forward | back | brake
  deriving DecidableEq, Repr

/-- Whether the phase drives chopped: REGULATE, and OVERTRAVEL after REGULATE (section 3.2, R48). -/
def latchChopped (l : Latch) : Bool :=
  l.phase == .regulate || (l.phase == .overtravel && l.resume == .regulate)

/-- The bridge is switched on in the direction of the record. -/
def latchDriving (l : Latch) : Bool :=
  match l.phase with
  | .drive => true
  | .regulate => l.chopOn
  | .overtravel => l.resume == .drive || l.chopOn
  | .idle | .brake | .pause | .failed => false

/-- The latch bridge output (section 3.2). -/
def latchBridge (l : Latch) : BridgeOut :=
  if l.phase = .brake then .brake
  else if latchDriving l then
    match l.direction with
    | some .forward => .forward
    | some .back => .back
    | none => .off
  else .off

/-- The latch reports itself active to power control (R47). -/
def latchActive (l : Latch) : Bool := (l.phase != .idle && l.phase != .failed) || l.supplyWait.isSome

/-! ## Window outputs and reported fields (R100, R109) -/

/-- Window percent (section 1.9). -/
def windowPercent (w : Window) : Byte :=
  match w.knowledge, w.pTop with
  | .positioned, some t => BitVec.ofNat 8 ((w.p * 100 + t / 2) / t)
  | _, _ => 255

/-- Window class (R100), at a station that has a window. -/
def moveClass (w : Window) : WindowClass :=
  match w.move with
  | some m =>
    if m.kind = .reversal then .reversing
    else match m.dir with
      | .up => .movingUp
      | .down => .movingDown
  | none =>
    match w.stopReason with
    | .halted => .halted
    | .supply => .supplyPause
    | .globalRefused => .globalRefused
    | .none => .stopped

/-- The entry zone of a POSITIONED window: p above P_top − 16 (R121). -/
def inEntryZone (t p : Nat) : Bool := t - 16 < p

/-- The pinch zone of a POSITIONED window: P_top − 800 to P_top − 16, from 0 when P_top is below 816. -/
def inPinchZone (t p : Nat) : Bool := (if t < 816 then 0 else t - 800) ≤ p && p + 16 ≤ t

/-- The duty count of the window bridge, 0 to 400 (R109). -/
def windowDuty (w : Window) : Nat :=
  match w.bridge, w.run with
  | .drive, some r =>
    match r.dir, w.knowledge, w.pTop with
    | .up, .positioned, some t => if inEntryZone t w.p then min r.ramp 280 else r.ramp
    | _, _, _ => r.ramp
  | _, _ => 0

/-- The window bridge outputs: brake, or driving up or down with the duty of R109. -/
inductive WindowOut where
  | off | brake
  | drive (dir : Dir) (duty : Nat)
  deriving DecidableEq, Repr

def windowBridge (w : Window) : WindowOut :=
  match w.bridge, w.run with
  | .off, _ => .off
  | .brake, _ => .brake
  | .drive, some r => .drive r.dir (windowDuty w)
  | .drive, none => .off

/-- Window drive reports itself active (R100). -/
def windowActive (w : Window) : Bool := w.move.isSome || w.bridge != .off || w.coast.isSome

/-- The sector of a position: p × 32 div (P_top + 1) (R121). -/
def sectorIndex (t p : Nat) : Nat := p * 32 / (t + 1)

/-- Whether every sector that the pinch zone touches has a learn count of 1 or more (R121). -/
def fullyLearned (t : Nat) (profile : Vector Sector 32) : Bool :=
  let lo := sectorIndex t (if t < 816 then 0 else t - 800)
  let hi := sectorIndex t (t - 16)
  profile.toArray.toList.zipIdx.all fun (x, i) => decide (i < lo) || decide (hi < i) || decide (1 ≤ x.learn)

/-! ## The own STATE (R33) -/

/-- The source code that STATE carries (R61). -/
def sourceCode : ActionSource → Byte
  | .none => 255
  | .node n _ => BitVec.ofNat 8 n.val
  | .fob f _ => BitVec.ofNat 8 (8 + f.val)
  | .autoRelock => 12
  | .driveAway => 13

/-- The sequence that STATE carries: the LOCKREQ sequence, the low byte of the fob counter, or 0 (R61). -/
def sequenceCode : ActionSource → Byte
  | .node _ q => q
  | .fob _ c => c.extractLsb' 0 8
  | .none | .autoRelock | .driveAway => 0

/-- The own STATE at this instant (R33). -/
def ownState (s : State) : StateContents :=
  { doorOpen := s.pins.doorOpen
    sleeping := s.power.sleepingFlag
    crashHold := s.crash.hold
    childOn := isRear s && s.child.position
    joining := s.link.state == .joining
    observed := s.latch.observed
    target := s.latch.target
    windowClass := if isTailgate s then .absent else moveClass s.window
    knowledge := if isTailgate s then .unpositioned else s.window.knowledge
    percent := if isTailgate s then 255 else windowPercent s.window
    source := sourceCode s.lock.source
    sequence := sequenceCode s.lock.source
    summary := s.faults.summary
    verdict := s.search.lastVerdict
    refusal := s.lock.refusal }

/-- The fields of STATE whose change places one: all but the window percent (R34). -/
def reportedFields (c : StateContents) : StateContents := { c with percent := 0 }

/-- Whether a reported field differs from the last placed STATE (R34). -/
def fieldsChanged (s : State) : Bool :=
  s.roster.lastPlaced.map reportedFields != some (reportedFields (ownState s))

/-! ## Electrodes (R142) -/

/-- Whether this station measures the electrode with index `e`. -/
def measured (s : State) (e : Fin 3) : Bool :=
  operating s && (if isTailgate s then e == 2 else e != 2)

/-- The zone of an electrode at a station that measures it. -/
def electrodeZone : Fin 3 → Zone
  | 0 => .unlock
  | 1 => .lock
  | 2 => .release

/-! ## Readiness (R178) -/

/-- No block reports itself active (R178, condition 3). -/
def blocksQuiet (s : State) : Bool :=
  !latchActive s.latch && s.child.pulse.isNone && s.release.pulse.isNone && !windowActive s.window &&
  s.search.phase == .idle

/-- Ready for sleep but for the receive queue: the ten conditions of R178 without the first sentence of
condition 7. -/
def readyApart (s : State) : Bool :=
  !configFault s &&
  (s.vehicle.ignition == .off || (peer s 6).presence == .lost || (peer s 6).presence == .neverHeard) &&
  blocksQuiet s &&
  s.rf.phase == .idle &&
  s.lock.deadlockWindow.isNone && s.lock.relock.isNone &&
  s.vehicle.afterRun.isNone &&
  (if s.power.entry = .none then s.link.tx.isEmpty
   else s.link.tx.all fun e => e.telegram.kind == kState) &&
  s.settings.writes.isEmpty && s.settings.write.isNone && s.settings.awaited.isNone &&
  s.link.state != .stuck &&
  (List.finRange 3).all fun e => !measured s e || s.touch.electrodes[e].onCount == 0

/-- Ready for sleep: the ten conditions of R178. -/
def ready (s : State) : Bool := readyApart s && s.link.rx.isEmpty

end Sys2Proof.Machine
end

