-- ==== Sys2Proof/Machine/Ops.lean ====
section
/-! DEFINITION. The shared operations: placing a telegram (R11 to R15, R22), fault capture (R181), placing
the own STATE (R33, R34), waking (R180), marking a record (R184), and what ends every event: reporting
changed STATE fields (R34) and judging readiness (R178, R179). -/

namespace Sys2Proof.Machine

/-! ## Outcomes of a command -/

/-- The outcome of an event that goes on. -/
def goOn (s : State) : Host.Outcome State Fault Refusal := .next s

/-! ## The transmit queue (R12 to R15) -/

/-- How the link answers a placement. -/
inductive Placed where
  | taken | refused | dropped
  deriving DecidableEq, Repr

/-- Payload byte `i`, 0 beyond the end. -/
def payloadByte (t : Telegram) (i : Nat) : Byte := t.payload.getD i 0

/-- A placed telegram takes over this entry: a STATE over a STATE (R13), a hold-to-run WINDOWREQ over one
with the same action and target set (R14). -/
def replaces (t : Telegram) (e : TxEntry) : Bool :=
  (t.kind == kState && e.telegram.kind == kState) ||
  (t.kind == kWindowreq && e.telegram.kind == kWindowreq &&
    (payloadByte t 1 == 1 || payloadByte t 1 == 2) &&
    payloadByte t 0 == payloadByte e.telegram 0 && payloadByte t 1 == payloadByte e.telegram 1)

/-- The entry after replacement: an entry in an attempt keeps its contents until the attempt ends. -/
def replaceEntry (t : Telegram) (e : TxEntry) : TxEntry :=
  if replaces t e then
    if e.inAttempt then { e with waiting := some t }
    else { e with telegram := t, attempts := 0, missing := 0 }
  else e

/-- A fresh entry. -/
def freshEntry (t : Telegram) : TxEntry :=
  { telegram := t, attempts := 0, missing := 0, inAttempt := false, waiting := none }

/-- Insertion behind every entry of the same and lower kinds (R12). -/
def insertEntry (e : TxEntry) : List TxEntry → List TxEntry
  | [] => [e]
  | x :: xs => if e.telegram.kind < x.telegram.kind then e :: x :: xs else x :: insertEntry e xs

/-- The link takes in, refuses or drops a telegram (R12 to R15, R22). -/
def enqueue (t : Telegram) (l : Link) : Link × Placed :=
  if l.state = .stuck then (l, .dropped)
  else if l.tx.any (replaces t) then ({ l with tx := l.tx.map (replaceEntry t) }, .taken)
  else if Config.txCapacity ≤ l.tx.length then (l, .refused)
  else ({ l with tx := insertEntry (freshEntry t) l.tx }, .taken)

/-- A telegram of this station. -/
def ownTelegram (s : State) (kind : BitVec 4) (payload : List Byte) : Telegram :=
  { kind, sender := BitVec.ofFin (ownNumber s), payload }

/-! ## Fault capture (R181) -/

/-- The record and summary after a capture at `time`, and whether a FAULT is placed for it (R181). -/
def captureRecord (time : Nat) (k : FaultKind) (d0 d1 d2 : Byte) (f : Faults) : Faults × Bool :=
  match f.record with
  | none =>
    ({ record := some { kind := k, d0, d1, d2, time, more := 0 }, summary := f.summary ||| faultFlag k },
      true)
  | some r =>
    ({ record := some { r with more := min 15 (r.more + 1) }, summary := f.summary ||| faultFlag k },
      r.more < 15 && !((k == .busNoack || k == .txOverflow) && d0 == 9))

/-- The payload of a FAULT (section 1.9). -/
def faultPayload (r : FaultRecord) : List Byte :=
  [BitVec.ofNat 8 (faultCode r.kind), r.d0, r.d1, r.d2, BitVec.ofNat 8 r.more,
   BitVec.ofNat 8 (r.time / 256), BitVec.ofNat 8 (r.time % 256)]

/-- The FAULT telegram that carries the record. A refused one leaves a TX_OVERFLOW capture with first
detail 9, which places no further FAULT (R15, R181). -/
def placeFault (s : State) : State :=
  match s.faults.record with
  | none => s
  | some r =>
    match enqueue (ownTelegram s kFault (faultPayload r)) s.link with
    | (l, .refused) =>
      { s with link := l, faults := (captureRecord (timeCount s) .txOverflow 9 0 0 s.faults).1 }
    | (l, _) => { s with link := l }

/-- A capture at a station that is AWAKE (R181). In CONFIG_FAULT no FAULT is placed (R27). -/
def captureAwake (k : FaultKind) (d0 d1 d2 : Byte) (s : State) : State :=
  let c := captureRecord (timeCount s) k d0 d1 d2 s.faults
  let s1 := { s with faults := c.1 }
  if c.2 && !configFault s then placeFault s1 else s1

/-- A block places a telegram; a refusal captures TX_OVERFLOW with the kind (R15). -/
def place (t : Telegram) (s : State) : State × Placed :=
  match enqueue t s.link with
  | (l, .refused) =>
    (captureAwake .txOverflow (t.kind.setWidth 8) 0 0 { s with link := l }, .refused)
  | (l, a) => ({ s with link := l }, a)

/-! ## The own STATE (R33 to R35) -/

/-- The roster places a STATE. Every placement restarts the period timer, except in SETTLING (R34, R179). -/
def placeState (s : State) : State :=
  let c := ownState s
  let s1 : State :=
    { s with roster :=
        { s.roster with
          lastPlaced := some c
          period := if s.power.entry = .settling then none else some 0 } }
  (place (ownTelegram s kState (encodeState c)) s1).1

/-- Report the changed STATE fields (R34): a STATE is placed while AWAKE and not in CONFIG_FAULT. -/
def reportOnce (s : State) : State := if active s && fieldsChanged s then placeState s else s

/-- A refused STATE changes the fault summary, which is a field of its own: report twice. -/
def reportChanges (s : State) : State := reportOnce (reportOnce s)

/-! ## Waking (R180) -/

/-- The blocks at a wake, before the wake STATE (R180, R1, R20, R142, R145, R176). The level of the line is
recessive until it is read (notes/assumptions/11.md). -/
def wakeBlocks (s : State) : State :=
  { s with
    power :=
      { asleep := false, entry := .none, quiet := 0, settle := none, flagSent := false,
        sleepingFlag := false }
    supply := { s.supply with discard := true, sampleTimer := some tSample }
    link :=
      { s.link with
        synchronised := false, insideTelegram := false, isolation := some 0, own := none
        level := .recessive, dominantFor := 0, recessiveFor := 0, tailFor := 0 }
    touch :=
      { s.touch with
        electrodes := vmap (fun e => { e with discard := true }) s.touch.electrodes
        scanElapsed := 0
        scanLength := tScanAwake
        cutShort := true } }

/-- The station wakes, if it sleeps, and places the wake STATE (R35, R180). -/
def wake (s : State) : State := if s.power.asleep then placeState (wakeBlocks s) else s

/-- A capture; one taken in SLEEP first wakes the station (R181). -/
def capture (k : FaultKind) (d0 d1 d2 : Byte) (s : State) : State := captureAwake k d0 d1 d2 (wake s)

/-! ## Marks of the settings store (R184) -/

/-- Mark a record for writing; one already in the set keeps its place. -/
def markRecord (r : RecordName) (s : State) : State :=
  { s with settings :=
      { s.settings with
        writes := if s.settings.writes.contains r then s.settings.writes
                  else s.settings.writes ++ [r] } }

/-! ## The end of every event -/

/-- Sleep entry begins or is abandoned as readiness comes or goes (R179). A telegram that waits for the
dispatcher does not abandon it: R179 has telegrams received in ANNOUNCING and SETTLING
(notes/assumptions/51.md). The STATE that carries the changed sleeping flag is placed by the report that
follows. -/
def judgeSleep (s : State) : State :=
  if s.power.asleep then s
  else if s.power.entry = .none then
    if ready s then
      { s with power := { s.power with entry := .announcing, flagSent := false, sleepingFlag := true } }
    else s
  else if readyApart s then s
  else { s with power := { s.power with entry := .none, settle := none, sleepingFlag := false } }

/-- What every event ends with: changed fields are reported, readiness is judged, and a changed sleeping
flag is reported (R34, R178, R179). -/
def conclude (s : State) : State :=
  if running s then reportChanges (judgeSleep (reportChanges s)) else s

/-- The event takes place where its condition holds; elsewhere it cannot arise and nothing changes
(notes/assumptions/7.md). -/
def event (cond : Bool) (f : State → State) (s : State) : Host.Outcome State Fault Refusal :=
  goOn (if cond then conclude (f s) else s)

/-! ## Arithmetic helpers -/

/-- Clamp to `lo … hi`. -/
def clamp (lo hi x : Nat) : Nat := max lo (min hi x)

/-- Integer division rounded toward zero. -/
def divTowardZero (x : Int) (d : Int) : Int := Int.tdiv x d

/-- The supply value clamped to 90 … 160 (section 7.6). -/
def clampedSupply (s : State) : Nat := clamp 90 160 s.supply.value

end Sys2Proof.Machine
end

