-- ==== Sys2Proof/Machine/Operands.lean ====
section
/-! DEFINITION. The forms in which the outside reaches the station: the telegram at the head of the receive
queue, as the dispatcher reads it (R18), the payloads the station sends (section 1.9), and the window
switch positions (R101). -/

namespace Sys2Proof.Machine

/-- WINDOWREQ actions (section 1.9). -/
inductive WindowAction where
  | manualUp | manualDown | autoUp | autoDown | stop
  deriving DecidableEq, Repr

/-- A telegram as the dispatcher hands it on. `discarded` covers every case of R18. Node numbers are the
sender's. -/
inductive Message where
  | discarded
  | state (n : Fin 8) (c : StateContents)
  | vehicle (speed : Byte) (ignition : Ignition)
  | fault (n : Fin 8)
  | serviceack (n : Fin 8)
  | central (n : Fin 8) (action : CentralAction) (cause : LockCause) (sequence search : Byte)
  | childRequest (n : Fin 8) (on : Bool) (sequence : Byte)
  | windowreq (n : Fin 8) (targets : Byte) (action : WindowAction) (sequence : Byte)
  | pinch (n : Fin 8)
  | search (n : Fin 8) (number : Byte) (slots : BitVec 6)
  | crash (n : Fin 8) (number : Byte)
  | service (subtype : Subtype) (target : Byte) (args : List Byte)
  | fobReport (n : Fin 8) (r : FobReport)
  deriving DecidableEq, Repr

/-- LOCKREQ payloads (section 1.9), with the pairing of actions and causes of R18. -/
def readLockreq (n : Fin 8) : List Byte → Message
  | [a, c, q] =>
    if c = 4 then
      if a = 4 then .childRequest n true q
      else if a = 5 then .childRequest n false q else .discarded
    else if c = 1 ∨ c = 2 then
      let cause : LockCause := if c = 1 then .insideButton else .keyCylinder
      if a = 1 then .central n .lock cause q 0
      else if a = 2 then .central n .deadlock cause q 0
      else if a = 3 then .central n .unlock cause q 0 else .discarded
    else .discarded
  | [a, c, q, sn] =>
    if c = 3 ∧ searchNumberListed sn = true then
      if a = 1 then .central n .lock .keyless q sn
      else if a = 2 then .central n .deadlock .keyless q sn
      else if a = 3 then .central n .unlock .keyless q sn else .discarded
    else .discarded
  | _ => .discarded

def windowActionOf (b : Byte) : Option WindowAction :=
  if b = 1 then some .manualUp else if b = 2 then some .manualDown else if b = 3 then some .autoUp
  else if b = 4 then some .autoDown else if b = 5 then some .stop else none

def windowActionCode : WindowAction → Byte
  | .manualUp => 1 | .manualDown => 2 | .autoUp => 3 | .autoDown => 4 | .stop => 5

/-- WINDOWREQ payloads: bits 5 to 7 of the target set are 0. -/
def readWindowreq (n : Fin 8) : List Byte → Message
  | [set, a, q] =>
    match windowActionOf a with
    | some w => if set.extractLsb' 5 3 = 0 then .windowreq n set w q else .discarded
    | none => .discarded
  | _ => .discarded

/-- SEARCH payloads: bits 6 and 7 of the slot set are 0. -/
def readSearch (n : Fin 8) : List Byte → Message
  | [number, zone, slots] =>
    if searchNumberListed number = true ∧ (zoneOf zone).isSome = true ∧ slots.extractLsb' 6 2 = 0 then
      .search n number (slots.extractLsb' 0 6)
    else .discarded
  | _ => .discarded

/-- SERVICE payloads: the length must match the subtype; argument values are not tested here (R18). -/
def readService : List Byte → Message
  | sub :: target :: args =>
    match subtypeOf sub with
    | none => .discarded
    | some k =>
      let n := match k with
        | .enrol => 8 | .option => 10 | .clearfault => 0 | .forgetWindow => 0
      if args.length = n ∧ target.toNat ≤ 4 then .service k target args else .discarded
  | _ => .discarded

/-- The payload of a kind that stations send, from sender `n`. -/
def readStationKind (kind : BitVec 4) (n : Fin 8) (p : List Byte) : Message :=
  if kind = kCrash then
    match p with
    | [x] => if x = 0 then .discarded else .crash n x
    | _ => .discarded
  else if kind = kPinch then
    match p with
    | [m, pc] => if m.toNat ≤ 3 ∧ percentListed pc = true then .pinch n else .discarded
    | _ => .discarded
  else if kind = kLockreq then readLockreq n p
  else if kind = kWindowreq then readWindowreq n p
  else if kind = kSearch then readSearch n p
  else if kind = kFobreport then
    match decodeFobReport p with
    | some r => .fobReport n r
    | none => .discarded
  else if kind = kState then
    match decodeState p with
    | some c => .state n c
    | none => .discarded
  else if kind = kFault then
    match p with
    | [k, _, _, _, more, _, _] => if k.toNat ≤ 15 ∧ more.toNat ≤ 15 then .fault n else .discarded
    | _ => .discarded
  else if kind = kServiceack then
    match p with
    | [sub, result] =>
      if (subtypeOf sub).isSome = true ∧ 1 ≤ result.toNat ∧ result.toNat ≤ 4 then .serviceack n
      else .discarded
    | _ => .discarded
  else .discarded

/-- The dispatcher's reading of a telegram (R18). -/
def readTelegram (own : Fin 8) (t : Telegram) : Message :=
  let n := t.sender.toFin
  if n = 5 ∨ n = own then .discarded
  else if t.kind = kVehicle then
    if n = 6 then
      match t.payload with
      | [v, ign] =>
        match ignitionOf ign with
        | some i => .vehicle v i
        | none => .discarded
      | _ => .discarded
    else .discarded
  else if t.kind = kService then
    if n = 7 then readService t.payload else .discarded
  else if n = 6 ∨ n = 7 then .discarded
  else readStationKind t.kind n t.payload

/-- What the dispatcher makes of the oldest telegram of the receive queue, with its end instant; `none`
when the queue is empty. In CONFIG_FAULT every telegram is discarded. -/
def headMessage (s : State) : Option (Message × Nat) :=
  match s.link.rx with
  | [] => none
  | e :: _ =>
    some (if configFault s then .discarded else readTelegram (ownNumber s) e.telegram, e.endInstant)

/-- Bits from the start of acknowledge slot `k` to the end of a complete telegram (section 1.2, R8): the
rest of the acknowledge field and the end field. -/
def slotBits (k : Fin 8) : Nat := 12 - k.val

/-- The link after the dispatcher has taken its oldest telegram at the instant `now` (R17). Takings that no
acknowledge slot can precede any more are forgotten. -/
def linkTaken (now : Nat) (l : Link) : Link :=
  match l.rx with
  | [] => l
  | e :: rest =>
    let entry : TakenEntry := { endInstant := e.endInstant, takenAt := now }
    { l with
      rx := rest
      taken := (l.taken ++ [entry]).filter fun x => decide (now < x.takenAt + slotBits 0 * tBit) }

/-- The dispatcher has taken the oldest telegram (R17). -/
def popRx (s : State) : State := { s with link := linkTaken s.now s.link }

/-- The command under which the dispatcher takes a telegram: the row of the table that the message
belongs to. -/
def takingOf : Message → Instr
  | .discarded => .dispatchDiscard
  | .state _ _ => .stateTaken
  | .vehicle _ _ => .vehicleTaken
  | .fault _ => .faultTaken
  | .serviceack _ => .serviceackTaken
  | .central _ .lock _ _ _ => .lockreqLock
  | .central _ .deadlock _ _ _ => .lockreqDeadlock
  | .central _ .unlock _ _ _ => .lockreqUnlock
  | .childRequest _ true _ => .lockreqChildOn
  | .childRequest _ false _ => .lockreqChildOff
  | .windowreq _ _ .manualUp _ => .windowreqManualUp
  | .windowreq _ _ .manualDown _ => .windowreqManualDown
  | .windowreq _ _ .autoUp _ => .windowreqAutoUp
  | .windowreq _ _ .autoDown _ => .windowreqAutoDown
  | .windowreq _ _ .stop _ => .windowreqStop
  | .pinch _ => .pinchTaken
  | .search _ _ _ => .searchTaken
  | .crash _ _ => .crashTaken
  | .service .enrol _ _ => .serviceEnrol
  | .service .option _ _ => .serviceOption
  | .service .clearfault _ _ => .serviceClearfault
  | .service .forgetWindow _ _ => .serviceForgetWindow
  | .fobReport _ r =>
    match r.command with
    | .lock => .fobLock
    | .unlock => .fobUnlock
    | .tailgate => .fobTailgate
    | .closeAll => .fobCloseAll
    | .openAll => .fobOpenAll
    | .searchReply => .fobSearchReply

/-- A dispatcher taking: the meaning `f` runs on the head message where the head belongs to the row
`row`; the telegram leaves the queue. Elsewhere the taking cannot arise. The station must be running and
AWAKE (the receive queue is taken from while AWAKE, R23). -/
def taking (row : Instr) (f : Message → Nat → State → State) (s : State) :
    Host.Outcome State Fault Refusal :=
  match headMessage s with
  | some (m, t) =>
    event (running s && !s.power.asleep && decide (takingOf m = row)) (fun s => f m t (popRx s)) s
  | none => goOn s

/-- Stage 1 or stage 2 of a window switch in a direction, or neutral (R101). -/
def switchDir : SwitchPos → Option Dir
  | .neutral => none
  | .up1 | .up2 => some .up
  | .down1 | .down2 => some .down

/-- The command that a change of a window switch forms (R101, R102). -/
inductive SwitchCommand where
  | none | release
  | manual (dir : Dir)
  | auto (dir : Dir)
  deriving DecidableEq, Repr

def switchCommand (before after : SwitchPos) : SwitchCommand :=
  if before = after then .none
  else match after with
    | .up2 => .auto .up
    | .down2 => .auto .down
    | .up1 => if before = .up2 then .none else .manual .up
    | .down1 => if before = .down2 then .none else .manual .down
    | .neutral => if before = .up1 ∨ before = .down1 then .release else .none

/-- Whether a switch stands at stage 1, and in which direction (R102). -/
def stageOne : SwitchPos → Option Dir
  | .up1 => some .up
  | .down1 => some .down
  | .neutral | .up2 | .down2 => none

/-- A supply sample: tenths of a volt, rounded down, saturating at 255 (R176). -/
def supplyTenths (millivolt : Nat) : Nat := min 255 (millivolt / 100)

end Sys2Proof.Machine
end

