-- ==== Sys2Proof/Machine/LatchDrive.lean ====
section
/-! DEFINITION. Latch drive (spec/03): target writes, the pursuit of a target, the current responses and
external moves, and the meanings of the latch rows. -/

namespace Sys2Proof.Machine

/-! ## Directions and driving -/

/-- The direction a target needs from an observed position; `none` when it is already there
(section 3.2). From UNKNOWN it is BACK for UNLOCKED and FORWARD otherwise (R46). -/
def needDir (t : LatchTarget) (o : LatchPos) : Option LatchDir :=
  match t, o with
  | .unlocked, .unlocked => none
  | .unlocked, _ => some .back
  | .locked, .locked => none
  | .locked, .deadlocked => some .back
  | .locked, _ => some .forward
  | .deadlocked, .deadlocked => none
  | .deadlocked, _ => some .forward

/-- The other direction. -/
def LatchDir.opposite : LatchDir → LatchDir
  | .forward => .back
  | .back => .forward

/-- The driving phase as a latch phase. -/
def DrivePhase.phase : DrivePhase → LatchPhase
  | .drive => .drive
  | .regulate => .regulate

/-- The pursuit ends: bridge off, IDLE, crash pursuit clear (R48, R50). -/
def endPursuit (l : Latch) : Latch :=
  { l with phase := .idle, crashPursuit := false, supplyWait := none }

/-- The pursuit fails: bridge off, FAILED; a crash pursuit ends with it (R52, R56). -/
def failPursuit (l : Latch) : Latch :=
  { l with phase := .failed, crashPursuit := false, supplyWait := none }

/-- The current filter and the 2 kHz period start afresh with the bridge switched on (R55;
notes/assumptions/39.md, 50.md). -/
def freshFilters (l : Latch) : Latch :=
  { l with overTime := 0, chopTimer := 0, chopBegun := true, chopOn := true, chopAbove := 0 }

/-- A driving bridge is to be chopped from its next 2 kHz period on; a phase that is already chopped keeps
its period (R54, R55; notes/assumptions/50.md). -/
def beginChop (l : Latch) : Latch :=
  if latchChopped l then l
  else { l with overTime := 0, chopBegun := false, chopOn := true, chopAbove := 0 }

/-- A drive is entered in the resume phase (R47), or held back with the supply wait running (R50).
`ok` says that the supply value is 70 or above. -/
def enterDrive (ok : Bool) (d : LatchDir) (l : Latch) : Latch :=
  if ok then
    freshFilters { l with phase := l.resume.phase, direction := some d, supplyWait := none, phaseTimer := 0 }
  else { l with phase := .idle, supplyWait := some 0, phaseTimer := 0 }

/-- Start a pursuit toward `t` (R46; R56 for a crash unlock). -/
def startPursuit (ok : Bool) (t : LatchTarget) (crash : Bool) (l : Latch) : Latch :=
  let l1 : Latch :=
    { l with
      target := t, attempt := 1, pulseElapsed := 0, regElapsed := 0
      regLimit := if crash then .crash else .normal
      crashPursuit := crash
      resume := if crash then .regulate else .drive
      openLoad := some 0, supplyWait := none, phaseTimer := 0, brakeForPassed := false }
  match needDir t l.observed with
  | none => endPursuit l1
  | some d => enterDrive ok d l1

/-- BRAKE for a new pursuit (R46, R51). -/
def brakeForNew (l : Latch) : Latch :=
  { l with phase := .brake, phaseTimer := 0, brakeForPassed := false }

/-- A taken new write makes an ordinary pursuit of a crash pursuit (R56, last paragraph;
notes/assumptions/20.md). -/
def ordinaryTarget (t : LatchTarget) (l : Latch) : Latch :=
  { l with target := t, crashPursuit := false, regLimit := .normal }

/-- A write is opposite when the direction it needs is the reverse of the record's direction (R46). -/
def oppositeWrite (t : LatchTarget) (l : Latch) : Bool :=
  match needDir t l.observed, l.direction with
  | some d, some r => d == r.opposite
  | _, _ => false

/-- A taken write that is not a crash unlock: the table of R46. -/
def latchWrite (ok : Bool) (t : LatchTarget) (l : Latch) : Latch :=
  let isNew := t != l.target
  match l.phase with
  | .idle =>
    match l.supplyWait with
    | none => if isNew || targetPos t != l.observed then startPursuit ok t false l else l
    | some _ =>
      if !isNew then l
      else if oppositeWrite t l then startPursuit ok t false l
      else if needDir t l.observed = none then endPursuit (ordinaryTarget t l)
      else ordinaryTarget t l
  | .drive | .regulate =>
    if !isNew then l
    else if oppositeWrite t l then brakeForNew (ordinaryTarget t l)
    else ordinaryTarget t l
  | .overtravel =>
    if !isNew then l
    else if oppositeWrite t l then brakeForNew (ordinaryTarget t l)
    else if needDir t l.observed = none then ordinaryTarget t l
    else { ordinaryTarget t l with phase := l.resume.phase }
  | .brake => if isNew then { ordinaryTarget t l with brakeForPassed := false } else l
  | .pause => if isNew then startPursuit ok t false l else l
  | .failed => startPursuit ok t false l

/-- A write as R45 takes it or not: no LOCKED or DEADLOCKED in crash hold, no DEADLOCKED with the own door
open. -/
def latchWriteGated (hold door ok : Bool) (t : LatchTarget) (l : Latch) : Latch :=
  if (hold && t != .unlocked) || (door && t == .deadlocked) then l else latchWrite ok t l

/-- REGULATE in place, without a brake (R56). -/
def regulateInPlace (l : Latch) : Latch :=
  { beginChop l with
    target := .unlocked, crashPursuit := true, regLimit := .crash, regElapsed := 0
    resume := .regulate, phase := .regulate, phaseTimer := 0 }

/-- A crash unlock write (R45, R56). -/
def crashUnlock (ok : Bool) (l : Latch) : Latch :=
  if l.crashPursuit then l
  else match l.phase with
    | .idle =>
      if l.supplyWait.isNone && l.observed == .unlocked then l else startPursuit ok .unlocked true l
    | .pause | .failed => startPursuit ok .unlocked true l
    | .drive | .regulate =>
      if l.direction = some .back then regulateInPlace l
      else brakeForNew { l with target := .unlocked, crashPursuit := true, regLimit := .crash }
    | .overtravel =>
      if l.direction = some .back then
        if l.target = .unlocked then { beginChop l with crashPursuit := true, resume := .regulate }
        else regulateInPlace l
      else brakeForNew { l with target := .unlocked, crashPursuit := true, regLimit := .crash }
    | .brake =>
      { l with target := .unlocked, crashPursuit := true, regLimit := .crash, brakeForPassed := false }

/-! ## Changes of the observed position -/

/-- The drive has passed its target (R49). -/
def passed (l : Latch) (o : LatchPos) : Bool :=
  l.target == .locked &&
    ((l.direction == some .forward && o == .deadlocked) || (l.direction == some .back && o == .unlocked))

/-- An external move in IDLE or FAILED, the new position already observed (R57). -/
def externalMove (hold door ok : Bool) (l : Latch) : Latch :=
  match l.observed with
  | .unknown => l
  | .unlocked => { l with target := .unlocked, phase := .idle, crashPursuit := false }
  | .locked =>
    if hold then startPursuit ok .unlocked true l
    else { l with target := .locked, phase := .idle, crashPursuit := false }
  | .deadlocked =>
    if hold then startPursuit ok .unlocked true l
    else if door then startPursuit ok .unlocked false l
    else { l with target := .deadlocked, phase := .idle, crashPursuit := false }

/-- The driving phase of a latch phase, for the resume phase (R48, R49, R53). -/
def drivePhaseOf (p : LatchPhase) : DrivePhase := if p = .regulate then .regulate else .drive

/-- A change of the observed position (R43), handled according to the phase (R48, R49, R50, R52, R57). The
current filter's time goes on from DRIVE into OVERTRAVEL and back (R48; notes/assumptions/42.md). -/
def latchObserve (hold door ok : Bool) (o : LatchPos) (l : Latch) : Latch :=
  if o = l.observed then l
  else
    let l1 := { l with observed := o }
    match l.phase with
    | .drive | .regulate =>
      if o = targetPos l.target then
        { l1 with phase := .overtravel, phaseTimer := 0, resume := drivePhaseOf l.phase }
      else if passed l o then
        { l1 with phase := .brake, phaseTimer := 0, resume := drivePhaseOf l.phase,
                  brakeForPassed := true }
      else l1
    | .overtravel => if o = targetPos l.target then l1 else externalMove hold door ok (endPursuit l1)
    | .idle =>
      if l.supplyWait.isSome then
        if o = targetPos l.target then endPursuit l1 else l1
      else externalMove hold door ok l1
    | .failed => externalMove hold door ok l1
    | .pause => if o = targetPos l.target then endPursuit l1 else l1
    | .brake => l1

/-! ## Expiries -/

/-- The attempt has reached 300 ms in DRIVE (R52). The second component says that LATCH_TIMEOUT is
captured. -/
def pulseLimit (l : Latch) : Latch × Bool :=
  if l.attempt ≤ 1 then
    ({ l with phase := .pause, phaseTimer := 0, pulseElapsed := tPulseLimit }, false)
  else (failPursuit { l with pulseElapsed := tPulseLimit }, true)

/-- A 50 ms brake ends (R49, R51). -/
def brakeEnd (ok : Bool) (l : Latch) : Latch × Bool :=
  if l.brakeForPassed then
    let pulse := min tPulseLimit (l.pulseElapsed + (tLatchBrake - l.phaseTimer))
    let l1 := { l with pulseElapsed := pulse }
    if l.observed = targetPos l.target then (endPursuit l1, false)
    else if pulse = tPulseLimit ∧ l.resume = .drive then pulseLimit l1
    else (enterDrive ok (l.direction.getD .forward).opposite l1, false)
  else (startPursuit ok l.target l.crashPursuit l, false)

/-- The 500 ms pause ends (R52). -/
def pauseEnd (ok : Bool) (l : Latch) : Latch :=
  match needDir l.target l.observed with
  | none => endPursuit l
  | some d => enterDrive ok d { l with attempt := 2, pulseElapsed := 0, openLoad := some 0 }

/-- A kept supply value (R50, R53). -/
def latchSupply (ok : Bool) (l : Latch) : Latch :=
  match l.phase with
  | .idle =>
    if l.supplyWait.isSome && ok then
      match needDir l.target l.observed with
      | some d => enterDrive true d l
      | none => endPursuit l
    else l
  | .drive | .regulate =>
    if ok then l
    else { l with phase := .idle, supplyWait := some 0, resume := drivePhaseOf l.phase }
  | .overtravel => if ok then l else endPursuit l
  | .brake | .pause | .failed => l

/-! ## State level -/

/-- The supply value is 70 (7.0 V) or above (R47). -/
def latchSupplyOk (s : State) : Bool := decide (70 ≤ s.supply.value)

/-- Position and target codes as fault details. -/
def targetByte (t : LatchTarget) : Byte := (latchTargetCode t).setWidth 8
def observedByte (o : LatchPos) : Byte := (latchPosCode o).setWidth 8

/-- Lock logic or latch drive writes the target (R45, R46). -/
def writeTarget (t : LatchTarget) (s : State) : State :=
  { s with latch := latchWriteGated s.crash.hold s.pins.doorOpen (latchSupplyOk s) t s.latch }

/-- The latch record after an expiry that may end in LATCH_TIMEOUT (R52). -/
def withTimeout (r : Latch × Bool) (s : State) : State :=
  let s1 := { s with latch := r.1 }
  if r.2 then
    capture .latchTimeout (targetByte r.1.target) (observedByte r.1.observed) 2 s1
  else s1

/-- The switch levels as an observed position (R43): `true` is closed. -/
def positionOf (a b : Bool) : LatchPos :=
  match a, b with
  | false, false => .unlocked
  | true, false => .locked
  | true, true => .deadlocked
  | false, true => .unknown

/-- The debounce that ran from a wake is done for this input (R180). -/
def debounced (i : SwitchInput) (s : State) : State :=
  { s with pins :=
      { s.pins with wakeDebounce := match s.pins.wakeDebounce with
          | some (j, t) => if j = i then none else some (j, t)
          | none => none } }

/-- A debounced input change: one that reaches a sleeping station wakes it first (R180). -/
def inputChange (i : SwitchInput) (s : State) : State := debounced i (wake s)

/-! ## Meanings -/

/-- LATCH_SWITCH_CHANGE (R43, R48, R49, R50, R52, R57). -/
def execLatchSwitchChange (a b : Bool) (s : State) : Host.Outcome State Fault Refusal :=
  event (operating s) (fun s =>
    let s1 := inputChange .latchSwitch s
    { s1 with latch :=
        latchObserve s1.crash.hold s1.pins.doorOpen (latchSupplyOk s1) (positionOf a b) s1.latch }) s

/-- OVERTRAVEL_END (R48). -/
def execOvertravelEnd (s : State) : Host.Outcome State Fault Refusal :=
  event (active s && s.latch.phase == .overtravel) (fun s => { s with latch := endPursuit s.latch }) s

/-- OVERTRAVEL_CURRENT_STOP (R48): full-drive overtravel only. -/
def execOvertravelCurrentStop (s : State) : Host.Outcome State Fault Refusal :=
  event (active s && s.latch.phase == .overtravel && s.latch.resume == .drive)
    (fun s => { s with latch := endPursuit s.latch }) s

/-- LATCH_BRAKE_END (R49, R51). -/
def execLatchBrakeEnd (s : State) : Host.Outcome State Fault Refusal :=
  event (active s && s.latch.phase == .brake)
    (fun s => withTimeout (brakeEnd (latchSupplyOk s) s.latch) s) s

/-- LATCH_PULSE_LIMIT (R52). -/
def execLatchPulseLimit (s : State) : Host.Outcome State Fault Refusal :=
  event (active s && s.latch.phase == .drive) (fun s => withTimeout (pulseLimit s.latch) s) s

/-- LATCH_PAUSE_END (R52). -/
def execLatchPauseEnd (s : State) : Host.Outcome State Fault Refusal :=
  event (active s && s.latch.phase == .pause)
    (fun s => { s with latch := pauseEnd (latchSupplyOk s) s.latch }) s

/-- LATCH_SUPPLY_WAIT_EXPIRY (R50): FAILED without a fault. -/
def execLatchSupplyWaitExpiry (s : State) : Host.Outcome State Fault Refusal :=
  event (active s && s.latch.phase == .idle && s.latch.supplyWait.isSome)
    (fun s => { s with latch := failPursuit s.latch }) s

/-- LATCH_OVERCURRENT (R54): FAILED in STOP mode, REGULATE in REGULATE mode, chopped from the next 2 kHz
period on. -/
def execLatchOvercurrent (s : State) : Host.Outcome State Fault Refusal :=
  event (active s && s.latch.phase == .drive) (fun s =>
    if s.settings.options.regulate then
      { s with latch := { beginChop s.latch with phase := .regulate } }
    else
      capture .latchOvercurrent (targetByte s.latch.target) (observedByte s.latch.observed) 0
        { s with latch := failPursuit s.latch }) s

/-- REGULATE_CHOP_OFF (R55): the bridge is off for the rest of the chop period. -/
def execRegulateChopOff (s : State) : Host.Outcome State Fault Refusal :=
  event (active s && latchChopped s.latch && s.latch.chopBegun && s.latch.chopOn)
    (fun s => { s with latch := { s.latch with chopOn := false } }) s

/-- CHOP_PERIOD_START (R55): the bridge drives again, with its blanking. -/
def execChopPeriodStart (s : State) : Host.Outcome State Fault Refusal :=
  event (active s && latchChopped s.latch)
    (fun s =>
      { s with latch :=
          { s.latch with chopTimer := 0, chopBegun := true, chopOn := true, chopAbove := 0 } }) s

/-- REGULATION_LIMIT (R55, R56). -/
def execRegulationLimit (s : State) : Host.Outcome State Fault Refusal :=
  event (active s && s.latch.phase == .regulate) (fun s =>
    capture .latchOvercurrent (targetByte s.latch.target) (observedByte s.latch.observed)
      (match s.latch.regLimit with | .normal => 1 | .crash => 2)
      { s with latch := failPursuit { s.latch with regElapsed := tRegLimit s.latch.regLimit } }) s

/-- Direction as a fault detail: 0 FORWARD, 1 BACK (R59). -/
def latchDirByte : Option LatchDir → Byte
  | some .back => 1
  | _ => 0

/-- LATCH_OPEN_LOAD (R59): the pulse goes on. -/
def execLatchOpenLoad (s : State) : Host.Outcome State Fault Refusal :=
  event
    (active s && s.latch.openLoad.isSome && (s.latch.phase == .drive || s.latch.phase == .regulate))
    (fun s =>
      capture .latchOpenLoad (targetByte s.latch.target) (latchDirByte s.latch.direction)
        (BitVec.ofNat 8 s.latch.attempt) { s with latch := { s.latch with openLoad := none } }) s

/-- The latch motor's current crosses a threshold: 0.2 A or more while the bridge drives ends a running
open-load check, and a crossing of 8 A starts or breaks the overcurrent filters (R48, R54, R55, R59). -/
def latchCurrentChange (band : CurrentBand) (l : Latch) : Latch :=
  let driven := latchDriving l && (l.phase == .drive || l.phase == .regulate)
  { l with
    current := band
    overTime := if band = .high ∧ l.current = .high then l.overTime else 0
    chopAbove := if band = .high ∧ l.current = .high then l.chopAbove else 0
    openLoad := if band != .low && driven then none else l.openLoad }

/-- The window motor's current crosses a threshold (R110, R111). -/
def windowCurrentChange (band : CurrentBand) (w : Window) : Window :=
  { w with
    current := band
    overTime := if band = .high ∧ w.current = .high then w.overTime else 0
    run :=
      if band != .low && w.bridge == .drive then w.run.map fun r => { r with openLoad := none }
      else w.run }

/-- MOTOR_CURRENT_CHANGE (R54, R59, R110, R111). -/
def execMotorCurrentChange (motor : Motor) (band : CurrentBand) (s : State) :
    Host.Outcome State Fault Refusal :=
  event (active s) (fun s =>
    match motor with
    | .latch => { s with latch := latchCurrentChange band s.latch }
    | .window =>
      if hasWindow s then { s with window := windowCurrentChange band s.window } else s) s

end Sys2Proof.Machine
end

