-- ==== Sys2Proof/Machine/Locking.lean ====
section
/-! DEFINITION. Lock logic (spec/04): applying and refusing central actions, the station's own LOCKREQ, the
tests that peer, vehicle and door changes trigger, and the meanings of the rows that lock logic and the
tailgate release own. -/

namespace Sys2Proof.Machine

/-! ## Applying an action (R61) -/

/-- The intent record after an applied action (R61); `own` says that the action is the own request in
flight, whose overtaken flag then stays as it is. -/
def applyIntent (a : CentralAction) (src : ActionSource) (own : Bool) (k : LockLogic) : LockLogic :=
  { k with
    action := some a, source := src, refusal := .none, relock := none, deadlockWindow := none
    inFlight := if own then k.inFlight else k.inFlight.map fun r => { r with overtaken := true } }

/-- An action is refused: the refusal code, and nothing else (R61). -/
def refuse (c : RefusalCode) (s : State) : State := { s with lock := { s.lock with refusal := c } }

/-- The causes that open the deadlock window (R66, R67). -/
def opensWindow : LockCause → Bool
  | .fobButton | .keyCylinder | .keyless => true
  | .insideButton | .autoRelock | .driveAway => false

/-- This station's verdict list holds INSIDE for the search that a KEYLESS LOCK carries (R66, test 2). -/
def keyInside (number : Byte) (s : State) : Bool :=
  s.search.number == number && s.search.verdicts.toArray.toList.any fun v => v == some .inside

/-- A LOCK (R66). -/
def takeLock (src : ActionSource) (cause : LockCause) (number : Byte) (own : Bool) (s : State) : State :=
  if s.crash.hold then refuse .crashHold s
  else if cause == .keyless && keyInside number s then refuse .keyInside s
  else if s.pins.doorOpen then
    { s with lock := { applyIntent .lock src own s.lock with followUp := true } }
  else
    let s1 : State :=
      { s with lock :=
          { applyIntent .lock src own s.lock with
            followUp := false
            deadlockWindow := if opensWindow cause then some tDeadlockWindow else none } }
    if s.latch.target = .deadlocked ∨ s.latch.observed = .deadlocked then s1 else writeTarget .locked s1

/-- What the roster holds of the door of another station of the expected set forbids a deadlock (R68). -/
def peerForbidsDeadlock (p : Peer) : Bool :=
  match p.presence with
  | .lost | .neverHeard => true
  | .present => match p.lastState with
    | none => true
    | some c => c.doorOpen
  | .asleep => match p.lastState with
    | none => false
    | some c => c.doorOpen

/-- A test over every other station of the expected set. -/
def anyPeer (f : Peer → Bool) (s : State) : Bool :=
  (List.finRange 5).any fun k =>
    let n : Fin 8 := ⟨k.val, by omega⟩
    expected s k.val && n != ownNumber s && f (peer s n)

/-- A DEADLOCK (R68): taken as LOCK when a door is open or not known to be closed. -/
def takeDeadlock (src : ActionSource) (cause : LockCause) (number : Byte) (own : Bool) (s : State) :
    State :=
  if s.crash.hold then refuse .crashHold s
  else if s.pins.doorOpen || anyPeer peerForbidsDeadlock s then takeLock src cause number own s
  else
    writeTarget .deadlocked
      { s with lock := { applyIntent .deadlock src own s.lock with followUp := false } }

/-- The auto-relock time of the option set, in microseconds; `none` when it is off. -/
def relockTime (s : State) : Option Nat :=
  if s.settings.options.relock = 0 then none else some (s.settings.options.relock * 1000000)

/-- An UNLOCK (R69). -/
def takeUnlock (src : ActionSource) (cause : LockCause) (own : Bool) (s : State) : State :=
  writeTarget .unlocked
    { s with lock :=
        { applyIntent .unlock src own s.lock with
          followUp := false
          driveAwayArmed := false
          relock :=
            if (cause == .fobButton || cause == .keyless) && !s.pins.doorOpen then relockTime s
            else none } }

/-- A LOCKREQ as R63 takes it, whether from a peer or the station's own. -/
def takeRequest (a : CentralAction) (src : ActionSource) (cause : LockCause) (number : Byte)
    (own : Bool) (s : State) : State :=
  match a with
  | .lock => takeLock src cause number own s
  | .deadlock =>
    if cause = .insideButton then takeLock src cause number own s
    else takeDeadlock src cause number own s
  | .unlock => takeUnlock src cause own s

/-! ## The station's own LOCKREQ (R62, R64, R65) -/

/-- The sequence counter steps by 1, wrapping from 255 to 0 (R62). -/
def stepSequence (s : State) : State := { s with lock := { s.lock with sequence := s.lock.sequence + 1 } }

/-- The payload of a LOCKREQ; the search number goes with KEYLESS only (section 1.9). -/
def lockreqPayload (a : CentralAction) (cause : LockCause) (q number : Byte) : List Byte :=
  [centralActionCode a, lockCauseCode cause, q] ++ (if cause = .keyless then [number] else [])

/-- Lock logic places its own LOCKREQ and applies it here (R64). -/
def placeRequest (a : CentralAction) (cause : LockCause) (number : Byte) (s : State) : State :=
  let q := s.lock.sequence
  let r := place (ownTelegram s kLockreq (lockreqPayload a cause q number)) (stepSequence s)
  let s1 := takeRequest a (.node (ownNumber s) q) cause number false r.1
  if r.2 = .taken then
    { s1 with lock :=
        { s1.lock with
          inFlight := some { action := a, cause, sequence := q, search := number, overtaken := false } } }
  else { s1 with lock := { s1.lock with refusal := .notSent, inFlight := none } }

/-- The outcome of the own request in flight (R65). `confirmed` is DELIVERED or NOT_DELIVERED. The outcome
of a request that a newer one has replaced is disregarded. -/
def requestOutcome (q : Byte) (confirmed : Bool) (s : State) : State :=
  match s.lock.inFlight with
  | none => s
  | some r =>
    if r.sequence = q then
      let s1 :=
        if confirmed && r.overtaken then
          takeRequest r.action (.node (ownNumber s) r.sequence) r.cause r.search true s
        else s
      { s1 with lock := { s1.lock with inFlight := none } }
    else s

/-! ## Tests at changes of the roster and the door -/

/-- The expected door of another station, for the drive-away test (R75): a last STATE with its door open
flag clear, in a record that is PRESENT, ASLEEP or LOST. -/
def peerDoorClosed (p : Peer) : Bool :=
  p.presence != .neverHeard &&
  match p.lastState with
  | some c => !c.doorOpen
  | none => false

/-- The drive-away test (R75). -/
def driveAwayTest (s : State) : State :=
  if s.lock.driveAwayArmed &&
      (match s.vehicle.speed with | some v => decide (15 ≤ v) | none => false) &&
      !s.pins.doorOpen && !anyPeer (fun p => !peerDoorClosed p) s then
    takeLock .driveAway .driveAway 0 false { s with lock := { s.lock with driveAwayArmed := false } }
  else s

/-- The relock timer stops (R73). -/
def stopRelock (s : State) : State := { s with lock := { s.lock with relock := none } }

/-- A peer change at lock logic (R73, R75). `opened` says that node `n`'s door open flag is newly set. -/
def peerChange (n : Fin 8) (opened : Bool) (s : State) : State :=
  driveAwayTest (if opened && expected s n.val then stopRelock s else s)

/-- A vehicle change at lock logic (R73, R75). -/
def vehicleChangeLock (s : State) : State :=
  driveAwayTest (if s.vehicle.ignition = .on ∨ s.vehicle.ignition = .crank then stopRelock s else s)

/-- The ignition OFF→ON event at lock logic (R74). -/
def armDriveAway (s : State) : State :=
  { s with lock := { s.lock with driveAwayArmed := s.settings.options.driveAway } }

/-- The follow-up lock at a closing door (R72). -/
def followUpLock (s : State) : State :=
  if s.lock.followUp then
    let s1 : State := { s with lock := { s.lock with followUp := false } }
    if !s.crash.hold && s.lock.action == some .lock && s.latch.target != .deadlocked &&
        s.latch.observed != .deadlocked then writeTarget .locked s1
    else s1
  else s

/-- The own door becomes reported open with the latch deadlocked, or to be deadlocked (R58). -/
def doorOpenLatch (s : State) : State :=
  if s.latch.target = .deadlocked ∨ s.latch.observed = .deadlocked then writeTarget .unlocked s else s

/-- After-run ends (R40). The event it delivers changes nothing at window drive (R107); readiness is judged
at the end of every event. -/
def endAfterRun (s : State) : State := { s with vehicle := { s.vehicle with afterRun := none } }

/-- The own door changes (R40, R58, R72, R73, R75). -/
def doorChange (isOpen : Bool) (s : State) : State :=
  if isOpen = s.pins.doorOpen then s
  else
    let s1 : State := { s with pins := { s.pins with doorOpen := isOpen } }
    let s2 :=
      if isOpen then
        let s2 := stopRelock (doorOpenLatch s1)
        if ownNumber s = 0 ∨ ownNumber s = 1 then endAfterRun s2 else s2
      else followUpLock s1
    driveAwayTest s2

/-! ## The tailgate release (R80) -/

/-- The release actuator's output: driven in the release direction while PULSING (R80). -/
def releaseOutput (r : Release) : Bool := r.pulse.isSome

/-- A release request: permitted below 3 km/h, or at UNKNOWN speed with ignition OFF. -/
def releaseRequest (s : State) : State :=
  let permitted : Bool :=
    match s.vehicle.speed with
    | some v => decide (v < 3)
    | none => s.vehicle.ignition == .off
  match s.release.pulse with
  | none => if permitted then { s with release := { pulse := some 0 } } else s
  | some _ => s

/-! ## Meanings -/

/-- DOOR_AJAR_CHANGE (R58, R72, R73, R75, R40). -/
def execDoorAjarChange (isOpen : Bool) (s : State) : Host.Outcome State Fault Refusal :=
  event (operating s) (fun s => doorChange isOpen (inputChange .doorAjar s)) s

/-- DEADLOCK_WINDOW_EXPIRY (R67). -/
def execDeadlockWindowExpiry (s : State) : Host.Outcome State Fault Refusal :=
  event (active s && s.lock.deadlockWindow.isSome)
    (fun s => { s with lock := { s.lock with deadlockWindow := none } }) s

/-- RELOCK_EXPIRY (R73): a LOCK with source AUTO_RELOCK. -/
def execRelockExpiry (s : State) : Host.Outcome State Fault Refusal :=
  event (active s && s.lock.relock.isSome)
    (fun s => takeLock .autoRelock .autoRelock 0 false (stopRelock s)) s

/-- An inside handle pull that reaches lock logic (R76). -/
def handlePull (s : State) : State :=
  if s.latch.target = .locked then writeTarget .unlocked s else s

/-- INSIDE_HANDLE_PULL (R76, R87): the pull is the change to pulled, and at a rear station child safety ON
stops it. -/
def execInsideHandlePull (pulled : Bool) (s : State) : Host.Outcome State Fault Refusal :=
  event (operating s) (fun s =>
    let s1 := inputChange .insideHandle s
    let s2 : State := { s1 with pins := { s1.pins with handlePulled := pulled } }
    if pulled && !s1.pins.handlePulled && !(isRear s1 && s1.child.position) then handlePull s2
    else s2) s

/-- CENTRAL_LOCK_BUTTON (R77): the press is the change to closed. -/
def execCentralLockButton (closed : Bool) (s : State) : Host.Outcome State Fault Refusal :=
  event (operating s && isDriverStation s) (fun s =>
    let s1 := inputChange .packContact s
    let s2 : State := { s1 with pins := { s1.pins with centralLock := closed } }
    if closed && !s1.pins.centralLock && !s1.pins.doorOpen then placeRequest .lock .insideButton 0 s2
    else s2) s

/-- CENTRAL_UNLOCK_BUTTON (R77). -/
def execCentralUnlockButton (closed : Bool) (s : State) : Host.Outcome State Fault Refusal :=
  event (operating s && isDriverStation s) (fun s =>
    let s1 := inputChange .packContact s
    let s2 : State := { s1 with pins := { s1.pins with centralUnlock := closed } }
    if closed && !s1.pins.centralUnlock then placeRequest .unlock .insideButton 0 s2 else s2) s

/-- A lock turn of the key cylinder (R78). -/
def keyLock (s : State) : State :=
  match s.lock.secondTurn with
  | none =>
    placeRequest .lock .keyCylinder 0 { s with lock := { s.lock with secondTurn := some tSecondTurn } }
  | some _ => placeRequest .deadlock .keyCylinder 0 { s with lock := { s.lock with secondTurn := none } }

/-- KEY_LOCK_TURN (R78). -/
def execKeyLockTurn (closed : Bool) (s : State) : Host.Outcome State Fault Refusal :=
  event (operating s && isDriverStation s) (fun s =>
    let s1 := inputChange .packContact s
    let s2 : State := { s1 with pins := { s1.pins with keyLock := closed } }
    if closed && !s1.pins.keyLock then keyLock s2 else s2) s

/-- KEY_UNLOCK_TURN (R78). -/
def execKeyUnlockTurn (closed : Bool) (s : State) : Host.Outcome State Fault Refusal :=
  event (operating s && isDriverStation s) (fun s =>
    let s1 := inputChange .packContact s
    let s2 : State := { s1 with pins := { s1.pins with keyUnlock := closed } }
    if closed && !s1.pins.keyUnlock then
      placeRequest .unlock .keyCylinder 0 { s2 with lock := { s2.lock with secondTurn := none } }
    else s2) s

/-- SECOND_TURN_EXPIRY (R78). -/
def execSecondTurnExpiry (s : State) : Host.Outcome State Fault Refusal :=
  event (active s && s.lock.secondTurn.isSome)
    (fun s => { s with lock := { s.lock with secondTurn := none } }) s

/-- RELEASE_PULSE_END (R80). -/
def execReleasePulseEnd (s : State) : Host.Outcome State Fault Refusal :=
  event (active s && s.release.pulse.isSome) (fun s => { s with release := { pulse := none } }) s

end Sys2Proof.Machine
end

