-- ==== Sys2Proof/Machine/PinchMonitor.lean ====
section
/-! DEFINITION. The pinch monitor (spec/07): the values of a run, the filter, the pinch test, accumulation
and the learning of the profile. Window drive calls it; it owns no row of the table. -/

namespace Sys2Proof.Machine

/-! ## Runs (R117) -/

/-- The accumulation mode of a run (R117). -/
def accMode (dir : Dir) (k : Knowledge) (override : Bool) : AccMode :=
  match dir, k, override with
  | .up, .positioned, false => .sector
  | .up, .bottomKnown, false => .bin
  | _, _, _ => .none

/-- The accumulators are emptied. -/
def emptyAcc (m : Pinch) : Pinch :=
  { m with sectorAcc := Vector.replicate 32 ⟨0, 0⟩, binAcc := Vector.replicate 64 ⟨0, 0⟩, holding := [] }

/-- The monitor's run values at the start of a run (R117). -/
def pinchRunStart (dir : Dir) (k : Knowledge) (override : Bool) (m : Pinch) : Pinch :=
  { emptyAcc m with
    counter := some 0, stepCount := 0, blanking := true, filtered := none, fallback := none, count := 0
    mode := accMode dir k override }

/-- The bridge leaves DRIVE: the period counter stops (R117, R126). -/
def pinchRunStop (m : Pinch) : Pinch := { m with counter := none }

/-! ## One step of an upward run (R118 to R128) -/

/-- The period T in ticks of 8 µs (R118). -/
def stepPeriod (counter : Option Nat) : Nat := max 1 (min 65535 (counter.getD 0 / 8))

/-- The filtered period (R119). -/
def filterPeriod (f : Option Nat) (t : Nat) : Nat :=
  match f with
  | none => t
  | some f => clamp 1 65535 ((3 * f + t + 2) / 4)

/-- The expected period of a learned or an unlearned sector (R122). -/
def expectedPeriod (x : Sector) (fb : Fallback) (v : Nat) : Nat :=
  clamp 1 65535
    (if 1 ≤ x.learn then (x.n * 130 + v / 2) / v else (fb.period * fb.supply + v / 2) / v)

/-- The slowdown S (R123). -/
def slowdown (f e : Nat) : Nat := if f ≤ e then 0 else min 1023 ((f - e) * 256 / e)

/-- The normalised period n (R127). -/
def normalised (f v : Nat) : Nat := clamp 1 65535 ((f * v + 65) / 130)

/-- Add a period to an accumulator. -/
def Acc.add (a : Acc) (n : Nat) : Acc := { sum := a.sum + n, count := a.count + 1 }

/-- Sector accumulation (R127): not in the entry zone. -/
def accSector (t p n : Nat) (m : Pinch) : Pinch :=
  if inEntryZone t p then m
  else
    let i := capFin 31 (sectorIndex t p)
    { m with sectorAcc := m.sectorAcc.set i.val ((m.sectorAcc[i]).add n) i.isLt }

/-- Bin accumulation through the holding list (R128). -/
def accBin (p n : Nat) (m : Pinch) : Pinch :=
  let entry := (capFin 63 (p / 64), n)
  match m.holding with
  | [] => { m with holding := [entry] }
  | (b, n0) :: rest =>
    if 16 ≤ m.holding.length then
      { m with binAcc := m.binAcc.set b.val ((m.binAcc[b]).add n0) b.isLt, holding := rest ++ [entry] }
    else { m with holding := m.holding ++ [entry] }

/-- Accumulation at an unblanked step, in the mode of the run (R127, R128). -/
def accumulate (t p n : Nat) (m : Pinch) : Pinch :=
  match m.mode with
  | .none => m
  | .sector => accSector t p n m
  | .bin => accBin p n m

/-- What a step reads beside the monitor's own record. -/
structure StepReads where
  knowledge : Knowledge
  pTop      : Nat
  p         : Nat
  ramp      : Nat
  override  : Bool
  supply    : Nat
  sTh       : Nat
  deriving DecidableEq, Repr

/-- The pinch test at an unblanked step of a POSITIONED window (R124): the new count, 3 at a pinch. -/
def pinchCount (x : StepReads) (f : Nat) (fb : Fallback) (m : Pinch) : Nat :=
  if x.knowledge = .positioned ∧ inPinchZone x.pTop x.p = true ∧ x.override = false then
    let e := expectedPeriod (m.profile[capFin 31 (sectorIndex x.pTop x.p)]) fb x.supply
    if x.sTh ≤ slowdown f e then m.count + 1 else 0
  else 0

/-- A step of an upward run (R118 to R128); the second component is a pinch declaration. -/
def pinchUpStep (x : StepReads) (m : Pinch) : Pinch × Bool :=
  let f := filterPeriod m.filtered (stepPeriod m.counter)
  let steps := min 25 (m.stepCount + 1)
  let m1 : Pinch := { m with counter := some 0, filtered := some f, stepCount := steps }
  if m.blanking && (decide (steps ≤ 24) || decide (x.ramp < 400)) then (m1, false)
  else
    let fb : Fallback :=
      if m.blanking then { period := f, supply := x.supply }
      else m.fallback.getD { period := f, supply := x.supply }
    let m2 : Pinch := { m1 with blanking := false, fallback := some fb }
    let c := pinchCount x f fb m2
    let m3 := accumulate x.pTop x.p (normalised f x.supply) { m2 with count := if 3 ≤ c then 0 else c }
    (m3, decide (3 ≤ c))

/-- A step of a downward run: the counter restarts, and nothing further (R118). -/
def pinchDownStep (m : Pinch) : Pinch := { m with counter := some 0 }

/-! ## Learning (R129 to R131) -/

/-- The bins fold into sectors by their middles (R129, Folding). -/
def foldBins (t : Nat) (m : Pinch) : Vector Acc 32 :=
  m.binAcc.toArray.toList.zipIdx.foldl
    (fun v (a, b) =>
      if 1 ≤ a.count ∧ 64 * b + 32 ≤ t then
        let i := capFin 31 (sectorIndex t (64 * b + 32))
        v.set i.val { sum := (v[i]).sum + a.sum, count := (v[i]).count + a.count } i.isLt
      else v)
    m.sectorAcc

/-- The learning update of one sector (R130). -/
def learnSector (x : Sector) (a : Acc) : Sector :=
  if a.count ≤ 3 then x
  else
    let mean := a.sum / a.count
    { n :=
        if x.learn = 0 then mean
        else ((x.n : Int) + divTowardZero ((mean : Int) - (x.n : Int)) 8).toNat
      learn := min 15 (x.learn + 1) }

/-- The run's accumulators are applied at a move that ended at the top (R129, R130). They are emptied with
their use (notes/assumptions/55.md). -/
def applyAcc (t : Nat) (m : Pinch) : Pinch :=
  let acc := match m.mode with
    | .none => Vector.replicate 32 ⟨0, 0⟩
    | .sector => m.sectorAcc
    | .bin => foldBins t m
  emptyAcc { m with profile := vzip learnSector m.profile acc }

/-- Every learn count becomes 0 (R99). -/
def forgetCounts (m : Pinch) : Pinch :=
  { m with profile := vmap (fun x => { x with learn := 0 }) m.profile }

end Sys2Proof.Machine
end

