-- ==== Sys2Proof/Machine/WindowDrive.lean ====
section
/-! DEFINITION. Window drive (spec/06): runs, moves, commands and their permission, end stops, the
reversal, and the meanings of the window rows, with the pack switches of the driver station. -/

namespace Sys2Proof.Machine

/-- Change the window record. -/
def onWindow (f : Window → Window) (s : State) : State := { s with window := f s.window }

/-- Change the pinch monitor's record. -/
def onPinch (f : Pinch → Pinch) (s : State) : State := { s with pinch := f s.pinch }

/-! ## Runs (R104, R109, R113, R117) -/

/-- Whether a run that starts for this move is an override close (R115). -/
def startsOverride (m : Move) (reversals : Nat) : Bool :=
  m.kind == .manual && m.dir == .up && (m.source == .ownSwitch || m.source == .pack) && 2 ≤ reversals

/-- The run of a move starts: the bridge enters DRIVE with the overcurrent filter at 0
(notes/assumptions/39.md). -/
def driveRun (m : Move) (w : Window) : Window :=
  { w with
    bridge := .drive, lastDir := m.dir, coast := none, unexpected := 0
    run := some
      { dir := m.dir, ramp := 160, rampTimer := 0, openLoad := some 0, stall := 0
        override := startsOverride m w.reversals }
    heat := min 1000 (w.heat + 10), offTime := 0, excursion := none, overTime := 0
    reversalReset := if m.dir = .up then none else w.reversalReset }

/-- The bridge is switched off: the coast timer starts (R96). -/
def switchOff (w : Window) : Window :=
  { w with bridge := .off, coast := some 0, run := none, excursion := none }

/-- The bridge brakes for 20 ms (R104, R112, R114). -/
def brakeOn (w : Window) : Window :=
  { w with bridge := .brake, brakeTimer := 0, run := none, excursion := none }

/-! ## The end of a move (R112) -/

/-- The manners of an ending (R112). `yieldingStop` is the stop of a STOP, a release, a lease expiry or a
child ON, which leaves a running brake to its end (R104). -/
inductive Manner where
  | stop | yieldingStop | brakeStop
  deriving DecidableEq, Repr

/-- The bridge at an ending. A brake that runs goes on to its end at a yielding stop (R104; of an end brake
notes/assumptions/44.md) and at a brake-stop (notes/assumptions/24.md). -/
def endBridge (manner : Manner) (w : Window) : Window :=
  match w.bridge, manner with
  | .drive, .stop | .drive, .yieldingStop | .brake, .stop => switchOff w
  | .drive, .brakeStop => brakeOn w
  | .brake, .yieldingStop | .brake, .brakeStop => w
  | .off, _ => w

/-- The holds after an ending that sets them: the spent hold for a PACK MANUAL move (R103), the global
spent hold for a GLOBAL one (R140). -/
def setHolds (m : Move) (w : Window) : Window :=
  if m.kind = .manual ∧ m.source = .pack then { w with spentHold := some ⟨m.dir, tPackLease⟩ }
  else if m.kind = .global then { w with globalSpent := some ⟨m.dir, tGlobalLease⟩ }
  else w

/-- The reversal counter and its reset timer after an ending (R112 step 5, R115). -/
def endCounter (atTop : Bool) (w : Window) : Window :=
  if atTop then { w with reversals := 0, reversalReset := none }
  else if 0 < w.reversals then { w with reversalReset := some 0 }
  else w

/-- The window record after an ending of a move (R112). `spent` says that the ending is one at which the
holds are set. -/
def endMoveWindow (manner : Manner) (atTop spent : Bool) (reason : StopReason) (m : Move) (w : Window) :
    Window :=
  let w1 := { endBridge manner w with move := none, stopReason := reason }
  endCounter atTop (if spent then setHolds m w1 else w1)

/-- The accumulators at the end of a move (R112 step 2, R129, R131). -/
def handAccumulators (atTop : Bool) (s : State) : State :=
  let s1 := onPinch pinchRunStop s
  if atTop then
    let s2 := onPinch (applyAcc (s.window.pTop.getD 0)) s1
    if s2.pinch.profile = s1.pinch.profile then s2 else markRecord .windowRecord s2
  else onPinch emptyAcc s1

/-- A move ends (R112). Nothing happens where there is none. -/
def endMove (manner : Manner) (atTop spent : Bool) (reason : StopReason) (s : State) : State :=
  match s.window.move with
  | none => s
  | some m => handAccumulators atTop (onWindow (endMoveWindow manner atTop spent reason m) s)

/-- H has reached 1000 during a run: the running move ends (R113; notes/assumptions/25.md). -/
def thermalEnd (s : State) : State :=
  if s.window.heat = 1000 ∧ s.window.bridge = .drive then endMove .stop false true .none s else s

/-! ## The start of a run (R104, R109, R113, R117) -/

/-- A run starts for the move `m` (R104, R109, R112, R113, R117). From a bridge that is OFF the window
record is marked with the moving marker set. A start charge that takes H to 1000 ends the move. -/
def startRun (m : Move) (s : State) : State :=
  let s1 :=
    if s.window.bridge = .off then
      markRecord .windowRecord (onWindow (fun w => { w with movingMarker := true }) s)
    else s
  thermalEnd
    (onPinch (pinchRunStart m.dir s.window.knowledge (startsOverride m s.window.reversals))
      (onWindow (driveRun m) s1))

/-! ## Commands and permission (R104 to R106) -/

/-- A command that would start or replace a move. -/
structure Command where
  kind   : MoveKind
  dir    : Dir
  source : MoveSource
  deriving DecidableEq, Repr

/-- The move that a command makes (section 6.4). -/
def Command.move (c : Command) : Move :=
  { kind := c.kind, dir := c.dir, source := c.source
    lease :=
      if c.kind = .global then some tGlobalLease
      else if c.kind = .manual ∧ c.source = .pack then some tPackLease else none
    target :=
      if c.kind = .auto ∨ c.kind = .global then (if c.dir = .up then .top else .bottom) else .none }

/-- A move of kind REVERSAL is running. -/
def reversing (w : Window) : Bool :=
  match w.move with
  | some m => m.kind == .reversal
  | none => false

/-- The knowledge that an automatic upward move needs (R106 test 5, R121). -/
def knowsTop (s : State) : Bool :=
  match s.window.knowledge, s.window.pTop with
  | .positioned, some t => fullyLearned t s.pinch.profile
  | _, _ => false

/-- The permission tests 2 to 8 of R106. -/
def permitted (c : Command) (s : State) : Bool :=
  !(c.dir == .up && s.crash.hold) &&
  !(c.dir == .up && reversing s.window) &&
  !(c.kind == .auto && c.dir == .up &&
      (match s.window.run with | some r => r.override | none => false)) &&
  !(c.dir == .up && (c.kind == .auto || c.kind == .global) && !knowsTop s) &&
  (c.kind == .global ||
    ((s.vehicle.ignition == .on || s.vehicle.afterRun.isSome) && s.vehicle.ignition != .crank)) &&
  (decide (90 ≤ s.supply.value) && decide (s.supply.value ≤ 160)) &&
  (decide (s.window.heat < 900) || (c.kind == .global && c.dir == .up))

/-- A command clears HALTED before its tests (R106 test 1). -/
def clearHalted (w : Window) : Window :=
  if w.stopReason = .halted then { w with stopReason := .none } else w

/-- The move record is replaced: the stop reason becomes NONE (R100), and a reversal that the new move
replaces has ended (R105, R114). The replacement of another move starts no counter reset timer
(R104, R115; notes/assumptions/43.md). -/
def replaceMove (m : Move) (w : Window) : Window :=
  { w with
    move := some m, stopReason := .none
    reversalReset := if reversing w then some 0 else w.reversalReset }

/-- A command that has passed its tests replaces the running move (R104). -/
def takeMove (m : Move) (s : State) : State :=
  let s1 := onWindow (replaceMove m) s
  match s.window.bridge with
  | .off => startRun m s1
  | .brake => s1
  | .drive =>
    if s.window.run.map (·.dir) = some m.dir then s1
    else onPinch (fun x => emptyAcc (pinchRunStop x)) (onWindow brakeOn s1)

/-- A GLOBAL move is running. -/
def globalRunning (w : Window) : Bool :=
  match w.move with
  | some m => m.kind == .global
  | none => false

/-- A command of the own switch or of a WINDOWREQ (R104, R106, R137). -/
def takeCommand (c : Command) (s : State) : State :=
  let s1 := onWindow clearHalted s
  if permitted c s1 then takeMove c.move s1
  else if globalRunning s1.window then endMove .brakeStop false false .none s1
  else s1

/-- A running move of the given kinds and source ends in the given manner. -/
def endIf (manner : Manner) (f : Move → Bool) (spent : Bool) (s : State) : State :=
  match s.window.move with
  | some m => if f m then endMove manner false spent .none s else s
  | none => s

/-- A release of the own switch (R101). -/
def releaseSwitch : State → State :=
  endIf .yieldingStop (fun m => m.kind == .manual && m.source == .ownSwitch) false

/-- A change of the own window switch at window drive (R101). -/
def ownSwitchChange (c : SwitchCommand) (s : State) : State :=
  match c with
  | .none => s
  | .release => releaseSwitch s
  | .manual d => takeCommand ⟨.manual, d, .ownSwitch⟩ s
  | .auto d => takeCommand ⟨.auto, d, .ownSwitch⟩ s

/-- A hold of direction `d` is set. -/
def holds (h : Option Hold) (d : Dir) : Bool :=
  match h with
  | some h => h.dir == d
  | none => false

/-- A WINDOWREQ MANUAL for this station (R103). -/
def packManual (d : Dir) (s : State) : State :=
  let w := s.window
  match w.move with
  | some m =>
    if m.kind = .manual ∧ m.source = .pack ∧ m.dir = d then
      onWindow (fun w =>
        { w with move := some { m with lease := some tPackLease }
                 spentHold := if holds w.spentHold d then w.spentHold else none }) s
    else if holds w.spentHold d then onWindow (fun w => { w with spentHold := some ⟨d, tPackLease⟩ }) s
    else takeCommand ⟨.manual, d, .pack⟩ (onWindow (fun w => { w with spentHold := none }) s)
  | none =>
    if holds w.spentHold d then onWindow (fun w => { w with spentHold := some ⟨d, tPackLease⟩ }) s
    else takeCommand ⟨.manual, d, .pack⟩ (onWindow (fun w => { w with spentHold := none }) s)

/-- A WINDOWREQ AUTO for this station (R103). -/
def packAuto (d : Dir) (s : State) : State :=
  takeCommand ⟨.auto, d, .pack⟩ (onWindow (fun w => { w with spentHold := none }) s)

/-- A WINDOWREQ STOP for this station (R103). -/
def packStop (s : State) : State :=
  endIf .yieldingStop (fun m => m.kind != .reversal) false
    (onWindow (fun w => { clearHalted w with spentHold := none }) s)

/-! ## Steps, stalls and end stops (R96 to R99) -/

/-- The count after a step in a direction, clamped (R96). -/
def stepPosition (d : Dir) (w : Window) : Nat :=
  let top := match w.knowledge, w.pTop with
    | .positioned, some t => t
    | _, _ => 4095
  min top (match d with | .up => w.p + 1 | .down => w.p - 1)

/-- Knowledge state codes as a fault detail. -/
def knowledgeByte (k : Knowledge) : Byte := (knowledgeCode k).setWidth 8

/-- The knowledge state changes: the window record is marked (R97, R99). -/
def setKnowledge (k : Knowledge) (s : State) : State :=
  if s.window.knowledge = k then s
  else markRecord .windowRecord (onWindow (fun w => { w with knowledge := k }) s)

/-- An unexpected edge (R97). -/
def unexpectedEdge (s : State) : State :=
  if 16 ≤ s.window.unexpected then s
  else
    let s1 := onWindow (fun w => { w with unexpected := w.unexpected + 1 }) s
    if s1.window.unexpected = 16 then
      capture .windowHall (knowledgeByte s.window.knowledge) 16 0 (setKnowledge .unpositioned s1)
    else s1

/-- A move that has run into the bottom (R98). -/
def bottomEnd (s : State) : State :=
  endMove .stop false true .none
    ((if s.window.knowledge = .unpositioned then setKnowledge .bottomKnown else id)
      (onWindow (fun w => { w with p := 0 }) s))

/-- A blocked stall (R98). -/
def blocked (s : State) : State := endMove .stop false true .none s

/-- A move that has run into the top of a POSITIONED window (R98). -/
def topEnd (t : Nat) (s : State) : State :=
  endMove .stop true true .none (onWindow (fun w => { w with p := t }) s)

/-- The difference of two counts. -/
def apart (a b : Nat) : Nat := (a - b) + (b - a)

/-- The learning of the top (R99). -/
def learnTop (s : State) : State :=
  let p := s.window.p
  if 400 ≤ p ∧ p ≤ 4000 then
    let s1 :=
      match s.window.pTop with
      | some t => if 32 < apart p t then onPinch forgetCounts s else s
      | none => s
    topEnd p (setKnowledge .positioned (onWindow (fun w => { w with pTop := some p }) s1))
  else
    blocked (capture .windowTravel (BitVec.ofNat 8 (p / 256)) (BitVec.ofNat 8 (p % 256)) 0 s)

/-- A pinch is declared during an upward run (R114, R126). -/
def declarePinch (s : State) : State :=
  match s.window.move with
  | none => s
  | some m =>
    let percent := windowPercent s.window
    let reversal : Move :=
      { kind := .reversal, dir := .down, source := .pinch, lease := none,
        target := .step (s.window.p - 200) }
    let s1 :=
      onPinch (fun x => emptyAcc (pinchRunStop x))
        (onWindow (fun w =>
          { (if m.kind = .manual ∧ m.source = .pack then setHolds m (brakeOn w) else brakeOn w) with
            move := some reversal, stopReason := .none, reversals := min 3 (w.reversals + 1),
            reversalReset := none }) s)
    (place (ownTelegram s kPinch [moveKindCode m.kind, percent]) s1).1

/-- A stall (R98): the rows are read in order. -/
def stalled (s : State) : State :=
  match s.window.run with
  | none => s
  | some r =>
    let p := s.window.p
    match s.window.knowledge, r.dir, s.window.pTop with
    | .unpositioned, .down, _ => bottomEnd s
    | .unpositioned, .up, _ => blocked s
    | .bottomKnown, .up, _ => learnTop s
    | .bottomKnown, .down, _ => if p ≤ 16 then bottomEnd s else blocked s
    | .positioned, .down, _ => if p ≤ 16 then bottomEnd s else blocked s
    | .positioned, .up, some t =>
      if t - 16 ≤ p then topEnd t s
      else if inPinchZone t p && !r.override then declarePinch s
      else blocked s
    | .positioned, .up, none => blocked s

/-- What the monitor reads at a step. -/
def stepReads (r : Run) (s : State) : StepReads :=
  { knowledge := s.window.knowledge, pTop := s.window.pTop.getD 0, p := s.window.p, ramp := r.ramp
    override := r.override, supply := clampedSupply s, sTh := s.settings.options.sTh }

/-- The reversal ends at its stop step (R114). Where p equals it already when the downward run starts, the run
goes on to its next step or its stall (notes/assumptions/53.md). -/
def reversalStep (s : State) : State :=
  match s.window.move with
  | some m =>
    match m.kind, m.target with
    | .reversal, .step q => if s.window.p ≤ q then endMove .stop false false .none s else s
    | _, _ => s
  | none => s

/-- A step while the bridge drives (R96, R118, R119). -/
def drivenStep (r : Run) (s : State) : State :=
  let s1 :=
    onWindow (fun w => { w with p := stepPosition r.dir w, run := some { r with stall := 0 } }) s
  match r.dir with
  | .up =>
    let m := pinchUpStep (stepReads r s1) s1.pinch
    let s2 : State := { s1 with pinch := m.1 }
    if m.2 then declarePinch s2 else s2
  | .down => reversalStep (onPinch pinchDownStep s1)

/-- A Hall edge at window drive (R96, R97). -/
def hallEdge (s : State) : State :=
  match s.window.bridge, s.window.run with
  | .drive, some r => drivenStep r s
  | .drive, none => s
  | .brake, _ => onWindow (fun w => { w with p := stepPosition w.lastDir w }) s
  | .off, _ =>
    if s.window.coast.isSome then onWindow (fun w => { w with p := stepPosition w.lastDir w }) s
    else unexpectedEdge s

/-! ## Supply and vehicle (R107, R108) -/

/-- A kept supply value at window drive (R108). -/
def windowSupply (v : Nat) (w : Window) : Window :=
  if w.bridge = .drive then
    { w with excursion :=
        if 90 ≤ v ∧ v ≤ 160 then none
        else match w.excursion with
          | some t => some t
          | none => some 0 }
  else w

/-- The ignition has changed to CRANK (R107). -/
def crankWindow : State → State :=
  endIf .stop (fun m =>
    (m.kind == .manual || m.kind == .auto) && (m.source == .ownSwitch || m.source == .pack)) true

/-- The child position has changed to ON (R88). -/
def childOnWindow : State → State :=
  endIf .yieldingStop (fun m => (m.kind == .manual || m.kind == .auto) && m.source == .ownSwitch) false

/-! ## The pack switches (R102) -/

/-- Whether the driver station reads a pack switch for station `k`. -/
def readsPack (k : Fin 4) (s : State) : Bool :=
  isDriverStation s && expected s k.val && ownNumber s != ⟨k.val, by omega⟩

/-- A WINDOWREQ is placed for station `k` with the next sequence of the shared counter (R62, R102). -/
def placeWindowreq (k : Fin 4) (a : WindowAction) (s : State) : State :=
  let q := s.lock.sequence
  (place (ownTelegram s kWindowreq [BitVec.twoPow 8 k.val, windowActionCode a, q]) (stepSequence s)).1

/-- The MANUAL and AUTO actions of a direction. -/
def manualAction : Dir → WindowAction
  | .up => .manualUp
  | .down => .manualDown
def autoAction : Dir → WindowAction
  | .up => .autoUp
  | .down => .autoDown

/-- The refresh timer of a pack switch. -/
def setRefresh (k : Fin 4) (t : Option Nat) (s : State) : State :=
  { s with pack := { refresh := s.pack.refresh.set k.val t k.isLt } }

/-- A change of the pack switch for station `k` (R102). -/
def packChange (k : Fin 4) (before after : SwitchPos) (s : State) : State :=
  match switchCommand before after with
  | .manual d => placeWindowreq k (manualAction d) (setRefresh k (some 0) s)
  | .auto d => placeWindowreq k (autoAction d) (setRefresh k none s)
  | .release => placeWindowreq k .stop (setRefresh k none s)
  | .none => if before = after then s else setRefresh k none s

/-! ## What the expiries of the window's timers do -/

/-- The coast is over (R96, R112): the rest position is marked for writing. -/
def coastOver (s : State) : State :=
  markRecord .windowRecord
    (onWindow (fun w => { w with coast := none, restPosition := w.p, movingMarker := false }) s)

/-- A lease has run out (R103, R136). -/
def leaseOver : State → State := endMove .yieldingStop false false .none

/-- The 20 ms of a brake are over (R104, R112, R114). -/
def windowBrakeOver (s : State) : State :=
  match s.window.move with
  | some m => startRun m s
  | none => onWindow switchOff s

/-- The ramp value rises by 40, to 400 at most (R109). -/
def rampUp (r : Run) : Run := { r with ramp := min 400 (r.ramp + 40), rampTimer := r.rampTimer - tRampStep }

/-- 10 ms of the soft start are over (R109). -/
def rampOver : State → State := onWindow fun w => { w with run := w.run.map rampUp }

/-- The supply has been outside its band for 100 ms (R108). -/
def excursionOver : State → State := endMove .stop false true .supply

/-- Direction and move kind of the running move as fault details (R110, R111). -/
def dirByte : Option Move → Byte
  | some m => match m.dir with | .up => 0 | .down => 1
  | none => 0
def kindByte : Option Move → Byte
  | some m => moveKindCode m.kind
  | none => 0

/-- The current has been high for 2 ms (R110). -/
def overcurrentStop (s : State) : State :=
  capture .windowOvercurrent (dirByte s.window.move) (kindByte s.window.move) (windowPercent s.window)
    (endMove .stop false true .halted s)

/-- The current has stayed low for the 50 ms of the open-load check (R111). -/
def openLoadStop (s : State) : State :=
  capture .windowOpenLoad (dirByte s.window.move) (kindByte s.window.move) 0
    (endMove .stop false true .none s)

/-- A full 100 ms of DRIVE time (R113): +3, and the move ends when H reaches 1000. -/
def heatTick (s : State) : State :=
  thermalEnd
    (onWindow (fun w => { w with heat := min 1000 (w.heat + 3), onTime := w.onTime - tHeat }) s)

/-- A full 2 s without DRIVE (R113): −1, not below 0. -/
def coolTick : State → State :=
  onWindow fun w => { w with heat := w.heat - 1, offTime := w.offTime - tCool }

/-- The reversal counter is reset (R115). -/
def counterOver : State → State := onWindow fun w => { w with reversals := 0, reversalReset := none }

/-- The spent hold has run out (R103). -/
def spentHoldOver : State → State := onWindow fun w => { w with spentHold := none }

/-- The global spent hold has run out (R140). -/
def globalSpentOver : State → State := onWindow fun w => { w with globalSpent := none }

/-! ## Meanings -/

/-- COAST_END (R96, R112): the rest position is marked for writing. -/
def execCoastEnd (s : State) : Host.Outcome State Fault Refusal :=
  event (active s && hasWindow s && s.window.coast.isSome) coastOver s

/-- WINDOW_SWITCH_CHANGE (R88, R101). -/
def execWindowSwitchChange (pos : SwitchPos) (s : State) : Host.Outcome State Fault Refusal :=
  event (operating s) (fun s =>
    let s1 := inputChange .ownWindowSwitch s
    let before := s1.pins.ownSwitch
    let s2 : State := { s1 with pins := { s1.pins with ownSwitch := pos } }
    if !hasWindow s || (isRear s1 && s1.child.position) then s2
    else ownSwitchChange (switchCommand before pos) s2) s

/-- PACK_WINDOW_SWITCH_CHANGE (R102): a switch that is not read changes nothing. -/
def execPackWindowSwitchChange (station : Fin 4) (pos : SwitchPos) (s : State) :
    Host.Outcome State Fault Refusal :=
  event (operating s && readsPack station s) (fun s =>
    let s1 := inputChange .packContact s
    let before := s1.pins.packSwitch[station]
    let s2 : State :=
      { s1 with pins := { s1.pins with packSwitch := s1.pins.packSwitch.set station.val pos station.isLt } }
    packChange station before pos s2) s

/-- PACK_REFRESH_EXPIRY (R102): the same MANUAL action with a new sequence. -/
def execPackRefreshExpiry (station : Fin 4) (s : State) : Host.Outcome State Fault Refusal :=
  event (active s && readsPack station s && (s.pack.refresh[station]).isSome) (fun s =>
    match stageOne (s.pins.packSwitch[station]) with
    | some d => placeWindowreq station (manualAction d) (setRefresh station (some 0) s)
    | none => setRefresh station none s) s

/-- PACK_LEASE_EXPIRY (R103). -/
def execPackLeaseExpiry (s : State) : Host.Outcome State Fault Refusal :=
  event (active s && hasWindow s &&
      (match s.window.move with
        | some m => m.kind == .manual && m.source == .pack
        | none => false))
    leaseOver s

/-- SPENT_HOLD_EXPIRY (R103). -/
def execSpentHoldExpiry (s : State) : Host.Outcome State Fault Refusal :=
  event (active s && hasWindow s && s.window.spentHold.isSome) spentHoldOver s

/-- WINDOW_BRAKE_END (R104, R112, R114). -/
def execWindowBrakeEnd (s : State) : Host.Outcome State Fault Refusal :=
  event (active s && hasWindow s && s.window.bridge == .brake) windowBrakeOver s

/-- RAMP_STEP (R109). -/
def execRampStep (s : State) : Host.Outcome State Fault Refusal :=
  event (active s && hasWindow s && s.window.bridge == .drive) rampOver s

/-- SUPPLY_EXCURSION (R108). -/
def execSupplyExcursion (s : State) : Host.Outcome State Fault Refusal :=
  event (active s && hasWindow s && s.window.bridge == .drive && s.window.excursion.isSome)
    excursionOver s

/-- WINDOW_OVERCURRENT (R110). -/
def execWindowOvercurrent (s : State) : Host.Outcome State Fault Refusal :=
  event (active s && hasWindow s && s.window.bridge == .drive) overcurrentStop s

/-- WINDOW_OPEN_LOAD (R111). -/
def execWindowOpenLoad (s : State) : Host.Outcome State Fault Refusal :=
  event (active s && hasWindow s && s.window.bridge == .drive &&
      (match s.window.run with | some r => r.openLoad.isSome | none => false)) openLoadStop s

/-- THERMAL_HEAT_TICK (R113): also for the 100 ms that a run has filled as it ended. -/
def execThermalHeatTick (s : State) : Host.Outcome State Fault Refusal :=
  event (active s && hasWindow s && (s.window.bridge == .drive || decide (tHeat ≤ s.window.onTime)))
    heatTick s

/-- THERMAL_COOL_TICK (R113): −1, not below 0; AWAKE and in SLEEP. -/
def execThermalCoolTick (s : State) : Host.Outcome State Fault Refusal :=
  event (hasWindow s && s.window.bridge != .drive) coolTick s

/-- REVERSAL_COUNTER_RESET (R115): AWAKE and in SLEEP. -/
def execReversalCounterReset (s : State) : Host.Outcome State Fault Refusal :=
  event (hasWindow s && s.window.reversalReset.isSome) counterOver s

/-- The addressed WINDOWREQ at window drive (R103). -/
def windowRequest (a : WindowAction) (s : State) : State :=
  match a with
  | .manualUp => packManual .up s
  | .manualDown => packManual .down s
  | .autoUp => packAuto .up s
  | .autoDown => packAuto .down s
  | .stop => packStop s

end Sys2Proof.Machine
end

