-- ==== Sys2Proof/Machine/Elapse.lean ====
section
/-! DEFINITION. The passing of time: every timer of the station advances under the conditions of its rule.
Nothing expires here; an expiry is a command of its own. HALL_STEP stands here because its operand is the
time since the Hall edge before it. -/

namespace Sys2Proof.Machine

/-! ## Timers -/

/-- A timer that counts up to its limit, while it runs. -/
def countUp (limit n : Nat) : Option Nat → Option Nat := Option.map fun t => min limit (t + n)

/-- A timer that holds what remains, while it runs. -/
def countDown (n : Nat) : Option Nat → Option Nat := Option.map fun t => t - n

/-- A filter entry's life (R41). -/
def ageFilter (n : Nat) : Option FilterEntry → Option FilterEntry :=
  Option.map fun e => { e with life := e.life - n }

/-- A peer record's age and filter lives (R31, R41). -/
def agePeer (n : Nat) (p : Peer) : Peer :=
  { p with
    age := if p.presence = .neverHeard then p.age else min tAgeMax (p.age + n)
    lockreqFilter := ageFilter n p.lockreqFilter
    windowreqFilter := ageFilter n p.windowreqFilter }

/-- The latch timers while AWAKE (R48 to R55, R59). The 2 kHz period runs from the switching on of the
bridge (notes/assumptions/50.md). -/
def elapseLatch (n : Nat) (l : Latch) : Latch :=
  let full := l.phase == .drive || (l.phase == .overtravel && l.resume == .drive)
  let checked := latchDriving l && (l.phase == .drive || l.phase == .regulate)
  { l with
    pulseElapsed :=
      if l.phase = .drive ∨ (l.phase = .brake ∧ l.brakeForPassed = true) then
        min tPulseLimit (l.pulseElapsed + n)
      else l.pulseElapsed
    regElapsed :=
      if l.phase = .regulate then min (tRegLimit l.regLimit) (l.regElapsed + n) else l.regElapsed
    phaseTimer :=
      match l.phase with
      | .overtravel => min tOvertravel (l.phaseTimer + n)
      | .brake => min tLatchBrake (l.phaseTimer + n)
      | .pause => min tPause (l.phaseTimer + n)
      | .idle | .drive | .regulate | .failed => l.phaseTimer
    supplyWait := countUp tSupplyWait n l.supplyWait
    openLoad :=
      if checked then (if l.current = .low then countUp tOpenLoad n l.openLoad else none) else l.openLoad
    overTime := if full && l.current == .high then min tLatchOver (l.overTime + n) else l.overTime
    chopTimer :=
      if latchChopped l then min tChopPeriod (l.chopTimer + n)
      else if full then (l.chopTimer + n) % tChopPeriod else l.chopTimer
    chopAbove :=
      if latchChopped l && l.chopBegun && l.chopOn && l.current == .high then
        min tChopDeglitch (l.chopAbove + ((l.chopTimer + n) - max l.chopTimer tChopBlank))
      else l.chopAbove }

/-- The lock logic timers while AWAKE (R60). -/
def elapseLock (n : Nat) (k : LockLogic) : LockLogic :=
  { k with
    deadlockWindow := countDown n k.deadlockWindow, relock := countDown n k.relock
    secondTurn := countDown n k.secondTurn }

/-- A run's timers while the bridge is in DRIVE (R98, R109, R111). -/
def elapseRun (n : Nat) (current : CurrentBand) (r : Run) : Run :=
  { r with
    rampTimer := if r.ramp < 400 then r.rampTimer + n else r.rampTimer
    openLoad := if current = .low then countUp tOpenLoad n r.openLoad else none
    stall := min tStall (r.stall + n) }

/-- What remains of a hold (R103, R140). -/
def elapseHold (n : Nat) : Option Hold → Option Hold :=
  Option.map fun h => { h with remaining := h.remaining - n }

/-- The window timers while AWAKE. -/
def elapseWindow (n : Nat) (w : Window) : Window :=
  let driving := w.bridge == .drive
  { w with
    brakeTimer := if w.bridge = .brake then min tWindowBrake (w.brakeTimer + n) else w.brakeTimer
    coast := countUp tCoast n w.coast
    run := if driving then w.run.map (elapseRun n w.current) else w.run
    move := w.move.map fun m => { m with lease := countDown n m.lease }
    onTime := if driving then w.onTime + n else w.onTime
    offTime := if driving then w.offTime else w.offTime + n
    reversalReset := countUp tReversalReset n w.reversalReset
    spentHold := elapseHold n w.spentHold
    globalSpent := elapseHold n w.globalSpent
    excursion := countUp tExcursion n w.excursion
    overTime := if driving && w.current == .high then min tWindowOver (w.overTime + n) else w.overTime }

/-- The window timers that run in SLEEP as when AWAKE (R113, R115). -/
def elapseWindowAsleep (n : Nat) (w : Window) : Window :=
  { w with
    offTime := if w.bridge = .drive then w.offTime else w.offTime + n
    reversalReset := countUp tReversalReset n w.reversalReset }

/-- The touch time, the scan period and the measurement in progress, AWAKE and in SLEEP (R142, R143,
R148). A measurement pause holds the touch time (R149). -/
def elapseTouch (n : Nat) (t : Touch) : Touch :=
  { t with
    measureElapsed :=
      if t.measuring.isSome then min tMeasure (t.measureElapsed + n) else t.measureElapsed
    electrodes :=
      if t.paused then t.electrodes
      else vmap (fun e => { e with touchTime := countUp tTouchStuck n e.touchTime }) t.electrodes
    scanElapsed := min t.scanLength (t.scanElapsed + n) }

/-- The wake wait (R155). -/
def elapseWait (n : Nat) : WakeWait → WakeWait
  | .first t => .first (min tWakeWait (t + n))
  | .second t => .second (min tWakeWait (t + n))
  | .stopped => .stopped
  | .awaitState => .awaitState

/-- The inter-byte timer (R166), AWAKE and in SLEEP. -/
def elapseRf (n : Nat) (r : Rf) : Rf :=
  { r with gap := if r.phase = .idle then r.gap else min tRfGap (r.gap + n) }

/-- The crash line qualification (R89). -/
def elapseCrashLine (n : Nat) : CrashLine → CrashLine
  | .active t => .active (min tCrashLine (t + n))
  | .inactive => .inactive
  | .qualified => .qualified

/-- The debounce that runs from a wake (R180). -/
def elapseDebounce (n : Nat) : Option (SwitchInput × Nat) → Option (SwitchInput × Nat)
  | some (i, t) => if t + n < tDebounce i then some (i, t + n) else none
  | none => none

/-- The link's timers (R20 to R22): while AWAKE and outside a telegram the line holds the level read last
(notes/assumptions/11.md), and the count of that level runs. -/
def elapseLink (asleep : Bool) (n : Nat) (l : Link) : Link :=
  let reads := !asleep && !l.insideTelegram
  { l with
    isolation := countUp tIsolation n l.isolation
    dominantFor :=
      if reads && l.level == .dominant then min tStuck (l.dominantFor + n) else l.dominantFor
    recessiveFor :=
      if reads && l.level == .recessive then min tStuckRelease (l.recessiveFor + n) else l.recessiveFor }

/-- The timers that run at every running station: the clock, the brown-out filter, and while AWAKE the
sample timer, the isolation timer and the quiet timer (R20, R176 to R178, R181). -/
def elapseBase (n : Nat) (s : State) : State :=
  { s with
    now := s.now + n
    supply :=
      { s.supply with
        brownOutTimer := countUp tBrownOut n s.supply.brownOutTimer
        sampleTimer := countUp tSample n s.supply.sampleTimer }
    link := elapseLink s.power.asleep n s.link
    power :=
      { s.power with quiet := if s.power.asleep then s.power.quiet else min tQuiet (s.power.quiet + n) } }

/-- The timers that run in SLEEP as when AWAKE, with valid straps. -/
def elapseAlways (n : Nat) (s : State) : State :=
  { s with
    touch := elapseTouch n s.touch
    rf := elapseRf n s.rf
    crash := { s.crash with line := elapseCrashLine n s.crash.line }
    settings :=
      { s.settings with
        write := s.settings.write.map fun w => { w with elapsed := min tNvmWrite (w.elapsed + n) } } }

/-- The timers that run only while AWAKE, with valid straps; the window timers apart. -/
def elapseAwake (n : Nat) (s : State) : State :=
  { s with
    pins := { s.pins with wakeDebounce := elapseDebounce n s.pins.wakeDebounce }
    roster :=
      { s.roster with
        peers := vmap (agePeer n) s.roster.peers
        period := countUp tStatePeriod n s.roster.period }
    vehicle :=
      { s.vehicle with
        hold := countDown n s.vehicle.hold, afterRun := countDown n s.vehicle.afterRun }
    latch := elapseLatch n s.latch
    lock := elapseLock n s.lock
    release := { pulse := countUp tRelease n s.release.pulse }
    child :=
      { s.child with
        pulse := s.child.pulse.map fun p => { p with elapsed := min tChildPulse (p.elapsed + n) } }
    pack := { refresh := vmap (countUp tPackRefresh n) s.pack.refresh }
    pinch := { s.pinch with counter := countUp tPeriodMax n s.pinch.counter }
    search := { s.search with wakeWait := elapseWait n s.search.wakeWait }
    power := { s.power with settle := countUp tSettle n s.power.settle } }

/-- The window's share (R95: none at station 4). -/
def elapseWindowPart (n : Nat) (s : State) : State :=
  if hasWindow s then
    { s with window := if s.power.asleep then elapseWindowAsleep n s.window else elapseWindow n s.window }
  else s

/-- `n` microseconds pass. A station held in reset counts nothing (R177). -/
def elapse (n : Nat) (s : State) : State :=
  if !running s then s
  else
    let s1 := elapseBase n s
    if !operating s then s1
    else
      let s2 := elapseWindowPart n (elapseAlways n s1)
      if s.power.asleep then s2 else elapseAwake n s2

/-! ## The timers of window drive -/

/-- The timers of the window record (spec/06, spec/08). -/
inductive WindowTimer where
  | heat | stall | coast | lease | globalLease | spentHold | globalSpent | brake | ramp | excursion
  | overcurrent | openLoad | cool | counterReset
  deriving DecidableEq, Repr

/-- What remains of a count that runs, and 0 of one that stands at its limit. -/
def leftOf (runs : Bool) (limit n : Nat) : Option Nat :=
  if runs || decide (limit ≤ n) then some (limit - n) else none

/-- What remains until a timer of the window expires; `none` where it does not run. -/
def timerLeft (w : Window) : WindowTimer → Option Nat
  | .heat => leftOf (w.bridge == .drive) tHeat w.onTime
  | .stall => if w.bridge = .drive then w.run.map fun r => tStall - r.stall else none
  | .coast => w.coast.map (tCoast - ·)
  | .lease => if globalRunning w then none else w.move.bind (·.lease)
  | .globalLease => if globalRunning w then w.move.bind (·.lease) else none
  | .spentHold => w.spentHold.map (·.remaining)
  | .globalSpent => w.globalSpent.map (·.remaining)
  | .brake => if w.bridge = .brake then some (tWindowBrake - w.brakeTimer) else none
  | .ramp =>
    if w.bridge = .drive then
      w.run.bind fun r => if r.ramp < 400 then some (tRampStep - r.rampTimer) else none
    else none
  | .excursion => if w.bridge = .drive then w.excursion.map (tExcursion - ·) else none
  | .overcurrent => if w.bridge = .drive then leftOf (w.current == .high) tWindowOver w.overTime else none
  | .openLoad =>
    if w.bridge = .drive then
      w.run.bind fun r => r.openLoad.bind fun t => leftOf (w.current == .low) tOpenLoad t
    else none
  | .cool => if w.bridge = .drive then none else some (tCool - w.offTime)
  | .counterReset => w.reversalReset.map (tReversalReset - ·)

/-- Cooling and the counter reset run in SLEEP as when AWAKE (R113, R115); the others are held. -/
def WindowTimer.runsAsleep : WindowTimer → Bool
  | .cool | .counterReset => true
  | .heat | .stall | .coast | .lease | .globalLease | .spentHold | .globalSpent | .brake | .ramp
  | .excursion | .overcurrent | .openLoad => false

/-- What remains until a timer of the window expires at this station. -/
def untilTimer (s : State) (x : WindowTimer) : Option Nat :=
  if hasWindow s && (!s.power.asleep || x.runsAsleep) then timerLeft s.window x else none

/-- The timers in the order in which those that expire together are taken. A full 100 ms of DRIVE comes before
the stall that ends with it (R113, worked example of spec/06). -/
def windowTimers : List WindowTimer :=
  [.heat, .stall, .coast, .lease, .spentHold, .brake, .ramp, .excursion, .overcurrent, .openLoad,
   .globalLease, .globalSpent, .cool, .counterReset]

/-- The expiry of a timer, as its row has it. -/
def expire : WindowTimer → State → State
  | .heat => heatTick
  | .stall => stalled
  | .coast => coastOver
  | .lease => leaseOver
  | .globalLease => leaseOver
  | .spentHold => spentHoldOver
  | .globalSpent => globalSpentOver
  | .brake => windowBrakeOver
  | .ramp => rampOver
  | .excursion => excursionOver
  | .overcurrent => overcurrentStop
  | .openLoad => openLoadStop
  | .cool => coolTick
  | .counterReset => counterOver

/-- The timer that expires first, and when. -/
def firstTimer (left : WindowTimer → Option Nat) : List WindowTimer → Option (WindowTimer × Nat)
  | [] => none
  | x :: xs =>
    match left x, firstTimer left xs with
    | some t, some (y, u) => if t ≤ u then some (x, t) else some (y, u)
    | some t, none => some (x, t)
    | none, r => r

/-- `n` microseconds pass. Each of the first `k` expiries of window drive that fall within them is an event of
its own, taken in its place; one that falls at their end is not (R125; notes/assumptions/8.md). -/
def elapseTimers : Nat → Nat → State → State
  | 0, n, s => elapse n s
  | k + 1, n, s =>
    match firstTimer (untilTimer s) windowTimers with
    | some (x, t) =>
      if t < n then elapseTimers k (n - t) (conclude (expire x (elapse t s))) else elapse n s
    | none => elapse n s

/-- No more expiries than this fall within `n` microseconds: two runs with their soft starts, brakes, stalls
and heat, one coast, the holds, and a cooling tick every 2 s (notes/assumptions/8.md). -/
def expiriesWithin (n : Nat) : Nat := 32 + n / tCool

/-! ## Meaning -/

/-- HALL_STEP (R96, R97, R118 to R128): `sinceLast` microseconds pass, with what expires at window drive within
them, and the edge comes. -/
def execHallStep (sinceLast : Nat) (s : State) : Host.Outcome State Fault Refusal :=
  event (hasWindow s) (fun s => hallEdge (elapseTimers (expiriesWithin sinceLast) sinceLast s)) s

/-- WINDOW_STALL (R98, R99): the stall timer has reached 150 ms. After a step that restarted the timer there
is no stall (R125). -/
def execWindowStall (s : State) : Host.Outcome State Fault Refusal :=
  event (active s && untilTimer s .stall == some 0) stalled s

end Sys2Proof.Machine
end

