-- ==== Sys2Proof/Machine/GlobalMoves.lean ====
section
/-! DEFINITION. Global window moves (spec/08): close and open frames, their conditions and renewals, the
fob and PINCH endings, and the two timer rows. -/

namespace Sys2Proof.Machine

/-- The global conditions for a frame in a direction (R133). -/
def globalConditions (d : Dir) (s : State) : Bool :=
  !s.pins.doorOpen &&
  match d with
  | .up =>
    s.latch.target != .unlocked && !s.crash.hold && decide (s.window.reversals < 2) &&
      decide (s.window.heat < 1000)
  | .down => s.latch.target == .unlocked

/-- A GLOBAL move in this direction is in the move record. -/
def globalMove (d : Dir) (w : Window) : Bool :=
  match w.move with
  | some m => m.kind == .global && m.dir == d
  | none => false

/-- The window is found already closed or already open (R134). -/
def alreadyThere (d : Dir) (w : Window) : Bool :=
  w.move.isNone &&
  match d, w.knowledge, w.pTop with
  | .up, .positioned, some t => decide (t - 16 ≤ w.p)
  | .down, .positioned, _ => decide (w.p ≤ 16)
  | .down, .bottomKnown, _ => decide (w.p ≤ 16)
  | _, _, _ => false

/-- The global spent hold in a direction, 600 ms. -/
def globalHold (d : Dir) (w : Window) : Window := { w with globalSpent := some ⟨d, tGlobalLease⟩ }

/-- A refused start (R134). -/
def refuseGlobal (w : Window) : Window :=
  if w.move.isNone then { w with stopReason := .globalRefused } else w

/-- A frame sorted as a start (R134). -/
def startGlobal (d : Dir) (s : State) : State :=
  let c : Command := ⟨.global, d, .fob⟩
  if globalConditions d s then
    let s1 := onWindow clearHalted s
    if permitted c s1 then
      if alreadyThere d s1.window then onWindow (globalHold d) s1 else takeMove c.move s1
    else onWindow refuseGlobal s1
  else onWindow refuseGlobal s

/-- A frame sorted as a renewal (R135). -/
def renewGlobal (d : Dir) (s : State) : State :=
  if globalConditions d s then
    onWindow (fun w =>
      { w with move := w.move.map fun m => { m with lease := some tGlobalLease } }) s
  else endMove .brakeStop false false .globalRefused s

/-- A close frame (UP) or an open frame (DOWN) at window drive (R132). -/
def globalFrame (d : Dir) (s : State) : State :=
  if !hasWindow s then s
  else if holds s.window.globalSpent d then onWindow (globalHold d) s
  else
    let s1 := onWindow (fun w => { w with globalSpent := none }) s
    if globalMove d s1.window then renewGlobal d s1 else startGlobal d s1

/-- A GLOBAL move in this direction ends with a brake-stop (R137, R138). -/
def endGlobal (d : Dir) (s : State) : State :=
  if hasWindow s && globalMove d s.window then endMove .brakeStop false false .none s else s

/-- An accepted fob LOCK frame at window drive (R137). -/
def fobLockWindow : State → State := endGlobal .down

/-- An accepted fob UNLOCK frame at window drive (R137). -/
def fobUnlockWindow : State → State := endGlobal .up

/-- A PINCH taken from a peer (R138). -/
def peerPinch : State → State := endGlobal .up

/-! ## Meanings -/

/-- GLOBAL_LEASE_EXPIRY (R136). -/
def execGlobalLeaseExpiry (s : State) : Host.Outcome State Fault Refusal :=
  event (active s && hasWindow s && globalRunning s.window) leaseOver s

/-- GLOBAL_SPENT_HOLD_EXPIRY (R140). -/
def execGlobalSpentHoldExpiry (s : State) : Host.Outcome State Fault Refusal :=
  event (active s && hasWindow s && s.window.globalSpent.isSome) globalSpentOver s

end Sys2Proof.Machine
end

