-- ==== Sys2Proof/Machine/ChildCrash.lean ====
section
/-! DEFINITION. Child safety and crash response (spec/05): the child actuator, the driver's child button,
the crash line, crash entry and its end, and the meanings of their rows. -/

namespace Sys2Proof.Machine

/-! ## The child safety unit (R82 to R84) -/

/-- A child request at stations 2 and 3 (R83). -/
def childRequest (on : Bool) (c : Child) : Child :=
  match c.pulse with
  | none => if on = c.position then c else { c with pulse := some ⟨on, 0⟩, request := none }
  | some p => { c with request := if p.towardOn = on then none else some on }

/-- A child request handed to the unit (R83): no action at stations 0, 1 and 4. -/
def takeChildRequest (on : Bool) (s : State) : State :=
  if isRear s then { s with child := childRequest on s.child } else s

/-- The pulse has ended: a pending request is taken as a new one (R84). -/
def childPulseOver (c : Child) : Child :=
  let idle : Child := { c with pulse := none, request := none }
  match c.request with
  | some on => childRequest on idle
  | none => idle

/-- A position as a fault detail: 1 for ON, 0 for OFF (R84). -/
def onByte (b : Bool) : Byte := if b then 1 else 0

/-- The end of a pulse (R84). -/
def endChildPulse (s : State) : State :=
  match s.child.pulse with
  | none => s
  | some p =>
    let s1 :=
      if p.towardOn = s.child.position then s
      else capture .childActuator (onByte p.towardOn) (onByte s.child.position) 0 s
    { s1 with child := childPulseOver s1.child }

/-- The child actuator's output: the direction driven, TOWARD_ON for `true` (R84). -/
def childOutput (c : Child) : Option Bool := c.pulse.map (·.towardOn)

/-- CHILD_SWITCH_CHANGE (R82, R88): read in CONFIG_FAULT too. -/
def execChildSwitchChange (closed : Bool) (s : State) : Host.Outcome State Fault Refusal :=
  event (running s && isRear s) (fun s =>
    let s1 := inputChange .childSwitch s
    let s2 : State := { s1 with child := { s1.child with position := closed } }
    if closed && !s1.child.position && hasWindow s1 then childOnWindow s2 else s2) s

/-- CHILD_PULSE_END (R84). -/
def execChildPulseEnd (s : State) : Host.Outcome State Fault Refusal :=
  event (active s && isRear s && s.child.pulse.isSome) endChildPulse s

/-! ## The driver's button (R85, R86) -/

/-- A rear station counts and reports child ON clear (R85). -/
def childClear (p : Peer) : Bool :=
  (p.presence == .present || p.presence == .asleep) &&
  match p.lastState with
  | some c => !c.childOn
  | none => false

/-- A press of the child button (R85, R86). -/
def childPress (s : State) : State :=
  if s.straps.body = .threeDoor then s
  else
    let action : Byte := if childClear (peer s 2) || childClear (peer s 3) then 4 else 5
    (place (ownTelegram s kLockreq [action, 4, s.lock.sequence]) (stepSequence s)).1

/-- CHILD_BUTTON_PRESS (R85, R86): the press is the change to closed. -/
def execChildButtonPress (closed : Bool) (s : State) : Host.Outcome State Fault Refusal :=
  event (operating s && isDriverStation s) (fun s =>
    let s1 := inputChange .packContact s
    let s2 : State := { s1 with pins := { s1.pins with childButton := closed } }
    if closed && !s1.pins.childButton then childPress s2 else s2) s

/-! ## Crash response (R89 to R94) -/

/-- A crash unlock write to latch drive (R45, R56, R90). -/
def crashLatch (s : State) : State := { s with latch := crashUnlock (latchSupplyOk s) s.latch }

/-- Step 1 of a crash entry (R90): the flag is set, and its change is reported at once, so that the STATE
enters the transmit queue before an own CRASH (R91; notes/assumptions/13.md). -/
def setCrashHold (s : State) : State :=
  let s1 : State := { s with crash := { s.crash with hold := true } }
  if s.crash.hold then s1 else reportChanges s1

/-- Step 2 of a crash entry (R90): the follow-up flag is cleared. -/
def crashLock (s : State) : State := { s with lock := { s.lock with followUp := false } }

/-- A crash entry: the four steps of R90. -/
def crashEntry (s : State) : State :=
  endMove .brakeStop false false .none (crashLatch (crashLock (setCrashHold s)))

/-- The next own event number: from 255 to 1 (R89). -/
def nextCrashNumber (n : Byte) : Byte := if n = 255 then 1 else n + 1

/-- The own crash event that is taken: the one that waits, or else that of the active line (R89). -/
def takeQualified (c : Crash) : Crash := if c.due then { c with due := false } else { c with line := .qualified }

/-- An own crash event (R89, R91). -/
def ownCrash (s : State) : State :=
  let n := nextCrashNumber s.crash.ownNumber
  let s1 := crashEntry { s with crash := { takeQualified s.crash with ownNumber := n } }
  (place (ownTelegram s1 kCrash [n]) s1).1

/-- The last event number of a station (R92). -/
def setCrashNumber (n : Fin 8) (x : Byte) (s : State) : State :=
  if h : n.val < 5 then
    { s with crash := { s.crash with lastNumber := s.crash.lastNumber.set n.val x h } }
  else s

/-- A CRASH telegram from station `n` (R92). -/
def takeCrash (n : Fin 8) (x : Byte) (s : State) : State :=
  if h : n.val < 5 then
    if s.crash.lastNumber[n.val] = x then s else crashEntry (setCrashNumber n x s)
  else s

/-- The ignition OFF→ON event at crash response (R94). -/
def endCrashHold (s : State) : State := { s with crash := { s.crash with hold := false } }

/-- CRASH_LINE_ACTIVE (R89): in SLEEP it wakes the station. -/
def execCrashLineActive (s : State) : Host.Outcome State Fault Refusal :=
  event (operating s && s.crash.line == .inactive) (fun s =>
    let s1 := wake s
    { s1 with crash := { s1.crash with line := .active 0 } }) s

/-- The line has been active for its 2 ms, and the event has not been taken (R89). -/
def lineQualified (c : CrashLine) : Bool :=
  match c with
  | .active t => decide (tCrashLine ≤ t)
  | .inactive | .qualified => false

/-- CRASH_LINE_INACTIVE (R89): an event that the end of the 2 ms brought about, as it may in SLEEP, is taken
when the station is AWAKE. -/
def execCrashLineInactive (s : State) : Host.Outcome State Fault Refusal :=
  event (operating s) (fun s =>
    { s with crash :=
        { s.crash with line := .inactive, due := s.crash.due || lineQualified s.crash.line } }) s

/-- The crash line is being qualified. -/
def qualifying (c : CrashLine) : Bool :=
  match c with
  | .active _ => true
  | .inactive | .qualified => false

/-- CRASH_LINE_QUALIFIED (R89, R90, R91): once the station is AWAKE. -/
def execCrashLineQualified (s : State) : Host.Outcome State Fault Refusal :=
  event (active s && (s.crash.due || qualifying s.crash.line)) ownCrash s

end Sys2Proof.Machine
end

