-- ==== Sys2Proof/Machine/SearchUnit.lean ====
section
/-! DEFINITION. The search unit (spec/10): starting, joining and ending a search, slots, localisation and
the decision, with the measurement pause it gives the touch scanner, and the meanings of its rows. -/

namespace Sys2Proof.Machine

/-- Change the search record. -/
def onSearch (f : Search → Search) (s : State) : State := { s with search := f s.search }

/-! ## The measurement pause (R149) -/

/-- A pause begins: a measurement in progress is abandoned. -/
def pauseTouch (s : State) : State :=
  { s with touch := { s.touch with measuring := none, paused := true } }

/-- A pause ends: every discard flag is set (R145). -/
def resumeTouch (s : State) : State :=
  { s with touch :=
      { s.touch with
        paused := false
        electrodes := vmap (fun e => { e with discard := true }) s.touch.electrodes } }

/-! ## Slots (R154, R159, R160) -/

/-- The station that drives slot `k`. -/
def slotStation (k : Fin 6) : Nat := min k.val 4

/-- The slot set of the station's own SEARCH (R154). -/
def ownSlotSet (s : State) : BitVec 6 :=
  (List.finRange 6).foldl (init := 0) fun acc k =>
    if expected s (slotStation k) then acc ||| BitVec.twoPow 6 k.val else acc

/-- Whether slot `k` is one of this station's. -/
def ownsSlot (s : State) (k : Fin 6) : Bool := slotStation k == (ownNumber s).val

/-- The lowest slot whose start has not passed `age` microseconds after t0 (R157). -/
def firstSlot (age : Nat) : Nat :=
  ((List.finRange 6).filter fun k => decide (tSlotStart k < age)).length

/-- The slot whose coil is driven now (R159, R160). -/
def lfDriven (s : State) : Option (Fin 6) :=
  match s.search.driving, s.search.t0 with
  | some k, some t =>
    if s.search.phase = .inFlight ∧ s.now < t + tSlotStart k + 2000 ∧ s.power.asleep = false ∧
        running s = true then some k
    else none
  | _, _ => none

/-- The LF burst that the coil sends now: the slot driven and the search number it carries (R159). -/
def lfBurst (s : State) : Option (Fin 6 × Byte) := (lfDriven s).map fun k => (k, s.search.number)

/-! ## Starting a search (R154 to R156) -/

/-- An abandoned search (R156). -/
def abandonSearch (s : State) : State :=
  onSearch (fun x =>
    { x with
      awaited := false, phase := .idle, touchZone := none, verdicts := Vector.replicate 4 none
      lastVerdict := .notFound, wakeWait := .stopped, driving := none }) s

/-- The search number that the station forms next (R154). -/
def nextSearchNumber (s : State) : Byte := BitVec.ofNat 8 ((ownNumber s).val * 32 + s.search.localCount)

/-- The local count steps, wrapping from 31 to 1 (R154). -/
def nextLocalCount (n : Nat) : Nat := if 31 ≤ n then 1 else n + 1

/-- The SEARCH is placed (R154); a refused or dropped one abandons the search (R156). -/
def placeSearch (s : State) : State :=
  let zone : Byte := match s.search.touchZone with
    | some z => zoneCode z
    | none => 0
  let t := ownTelegram s kSearch [nextSearchNumber s, zone, (ownSlotSet s).setWidth 8]
  let r := place t (onSearch (fun x =>
    { x with localCount := nextLocalCount x.localCount, awaited := true, wakeWait := .stopped }) s)
  if r.2 = .taken then r.1 else abandonSearch r.1

/-- A touch event in IDLE starts a search (R155). -/
def startSearch (z : Zone) (woke : Bool) (s : State) : State :=
  let s1 := onSearch (fun x =>
    { x with
      verdicts := Vector.replicate 4 none, number := 0, touchZone := some z, coilOpen := false
      phase := .pending, awaited := false }) s
  if woke then onSearch (fun x => { x with wakeWait := .first 0 }) s1 else placeSearch s1

/-- A touch event delivered to the search unit (R155, R158). -/
def touchSearch (z : Zone) (woke : Bool) (s : State) : State :=
  match s.search.phase with
  | .idle => startSearch z woke s
  | .pending | .inFlight | .collecting =>
    match s.search.touchZone with
    | none => onSearch (fun x => { x with touchZone := some z }) s
    | some _ => s

/-- The own SEARCH went out: t0 is now, and the search is IN_FLIGHT (R156, R159). -/
def enterFlight (t : Telegram) (s : State) : State :=
  pauseTouch (onSearch (fun x =>
    { x with
      awaited := false, t0 := some s.now, number := payloadByte t 0
      slots := (payloadByte t 2).setWidth 6, phase := .inFlight, driving := none, nextSlot := 0 }) s)

/-- The outcome of the own SEARCH (R156): `sent` for DELIVERED and UNCONFIRMED. -/
def searchOutcome (t : Telegram) (sent : Bool) (s : State) : State :=
  if s.search.awaited then (if sent then enterFlight t s else abandonSearch s) else s

/-- An attempt of the queued STATE has ended (R155). -/
def stateAttemptEnded (s : State) : State :=
  if s.search.wakeWait = .awaitState then onSearch (fun x => { x with wakeWait := .second 0 }) s else s

/-! ## The decision (R162, R165) -/

/-- The entries of the verdict list, by fob number. -/
def verdictList (s : State) : List Verdict := s.search.verdicts.toArray.toList.filterMap id

def isOutsideAt : Verdict → Bool
  | .outsideAt _ => true
  | _ => false
def isOutsideNear : Verdict → Bool
  | .outsideNear _ => true
  | _ => false

/-- The ranked verdict of a list (R165). -/
def rankedVerdict (l : List Verdict) : Verdict :=
  if l.contains .inside then .inside
  else match l.find? isOutsideAt with
    | some v => v
    | none =>
      match l.find? isOutsideNear with
      | some v => v
      | none => .notFound

/-- The s-match of the accepting fob (R165): OUTSIDE_AT(s) before OUTSIDE_NEAR(s). -/
def acceptedVerdict (own : Nat) (l : List Verdict) : Option Verdict :=
  let d := capFin 4 own
  if l.contains (.outsideAt d) then some (.outsideAt d)
  else if l.contains (.outsideNear d) then some (.outsideNear d)
  else none

/-- The last verdict. -/
def setVerdict (v : Verdict) (s : State) : State := onSearch (fun x => { x with lastVerdict := v }) s

/-- The decision for the own touch zone (R165). -/
def decideSearch (z : Zone) (s : State) : State :=
  let l := verdictList s
  if z = .lock ∧ l.contains .inside = true then setVerdict .inside (refuse .keyInside s)
  else
    match acceptedVerdict (ownNumber s).val l with
    | none => setVerdict (rankedVerdict l) s
    | some v =>
      setVerdict v
        (match z with
          | .unlock => placeRequest .unlock .keyless s.search.number s
          | .lock => placeRequest .lock .keyless s.search.number s
          | .release => releaseRequest s)

/-- The end of collection (R162). -/
def endCollection (s : State) : State :=
  let s1 := match s.search.touchZone with
    | some z => decideSearch z s
    | none => setVerdict (rankedVerdict (verdictList s)) s
  onSearch (fun x => { x with touchZone := none, phase := .idle, driving := none }) s1

/-! ## Searches that meet (R157) -/

/-- The search unit withdraws its SEARCH (R16): an entry in an attempt stays, also where that attempt then
loses arbitration (notes/assumptions/52.md). -/
def withdrawSearch (s : State) : State :=
  { s with link :=
      { s.link with tx := s.link.tx.filter fun e => e.telegram.kind != kSearch || e.inAttempt } }

/-- The station joins a search (R157). `keep` keeps the own touch zone. -/
def joinSearch (keep : Bool) (number : Byte) (slots : BitVec 6) (t0 : Nat) (s : State) : State :=
  let age := s.now - t0
  let s1 := onSearch (fun x =>
    { x with
      number, slots, t0 := some t0, verdicts := Vector.replicate 4 none, coilOpen := false
      touchZone := if keep then x.touchZone else none
      wakeWait := .stopped, awaited := false, driving := none, nextSlot := firstSlot age
      phase := if age < tInFlight then .inFlight else .collecting }) s
  if age < tInFlight then pauseTouch s1
  else if age < tCollect then s1
  else endCollection s1

/-- A SEARCH taken from another sender (R157). -/
def takeSearch (number : Byte) (slots : BitVec 6) (t0 : Nat) (s : State) : State :=
  match s.search.phase with
  | .idle => joinSearch false number slots t0 s
  | .pending => joinSearch true number slots t0 (withdrawSearch s)
  | .inFlight | .collecting => s

/-! ## Localisation (R163, R164) -/

/-- Slot `k` is excluded (R163). -/
def slotExcluded (s : State) (k : Fin 6) : Bool :=
  let n := slotStation k
  !s.search.slots.getLsbD k.val || !expected s n ||
  (if n = (ownNumber s).val then s.search.coilOpen
   else match (s.roster.peers[n]'(by have : n ≤ 4 := Nat.min_le_right _ _; omega)).lastState with
    | some c => c.summary.getLsbD 13
    | none => false)

/-- The adjusted reading of slot `k` (R163). -/
def adjusted (s : State) (readings : List Byte) (k : Fin 6) : Nat :=
  let r := (readings.getD k.val 0).toNat
  if slotExcluded s k || r == 0 then 0
  else (max 1 (min 255 ((r : Int) + s.settings.options.offsets[k]))).toNat

/-- The largest value of a list, 0 for an empty one. -/
def largest (l : List Nat) : Nat := l.foldl max 0

/-- The verdict for the six adjusted readings: the five door slots and the cabin (R164). -/
def locate (doors : List Nat) (cabin : Nat) : Verdict :=
  let top := largest doors
  if locTin ≤ cabin ∧ top ≤ cabin + locMin then .inside
  else
    let d := doors.findIdx fun a => a == top
    let second := largest (doors.eraseIdx d)
    if locTout ≤ top then
      if locMsep ≤ top - second then .outsideAt (capFin 4 d) else .outsideNear (capFin 4 d)
    else .notFound

/-- The verdict for a report's readings (R163, R164). -/
def verdictOfReadings (s : State) (readings : List Byte) : Verdict :=
  locate [adjusted s readings 0, adjusted s readings 1, adjusted s readings 2, adjusted s readings 3,
    adjusted s readings 4] (adjusted s readings 5)

/-- A verified report with readings (R163). -/
def takeReadings (f : Fin 4) (number : Byte) (readings : List Byte) (s : State) : State :=
  match s.search.phase with
  | .idle | .pending => s
  | .inFlight | .collecting =>
    if number = s.search.number then
      onSearch (fun x =>
        { x with verdicts := x.verdicts.set f.val (some (verdictOfReadings s readings)) f.isLt }) s
    else s

/-! ## Meanings -/

/-- The wake wait has run one of its two parts (R155). -/
def waitRuns (w : WakeWait) : Bool :=
  match w with
  | .first _ | .second _ => true
  | .stopped | .awaitState => false

/-- The end of 5 ms of the wake wait (R155). -/
def waitOver (s : State) : State :=
  match s.search.wakeWait with
  | .first _ =>
    if s.link.tx.any fun e => e.telegram.kind == kState then
      onSearch (fun x => { x with wakeWait := .awaitState }) s
    else placeSearch s
  | .second _ => placeSearch s
  | .stopped | .awaitState => s

/-- WAKE_WAIT_END (R154, R155). -/
def execWakeWaitEnd (s : State) : Host.Outcome State Fault Refusal :=
  event (active s && waitRuns s.search.wakeWait) waitOver s

/-- SLOT_START (R160). -/
def execSlotStart (slot : Fin 6) (s : State) : Host.Outcome State Fault Refusal :=
  event
    (active s && s.search.phase == .inFlight && ownsSlot s slot && decide (s.search.nextSlot ≤ slot.val))
    (fun s => onSearch (fun x =>
      { x with
        nextSlot := slot.val + 1
        driving :=
          if x.slots.getLsbD slot.val && decide (90 ≤ s.supply.value) then some slot else none }) s) s

/-- The end of a driven slot (R161). -/
def slotOver (currentReached : Bool) (s : State) : State :=
  match s.search.driving with
  | none => s
  | some k =>
    if currentReached then onSearch (fun x => { x with driving := none }) s
    else
      capture .lfOpen (BitVec.ofNat 8 k.val) s.search.number 0
        (onSearch (fun x => { x with driving := none, coilOpen := true }) s)

/-- SLOT_END (R161): `currentReached` says that 50 mA was reached at some instant of the slot. -/
def execSlotEnd (currentReached : Bool) (s : State) : Host.Outcome State Fault Refusal :=
  event (active s && s.search.driving.isSome) (slotOver currentReached) s

/-- COLLECTING_START (R149, R159). -/
def execCollectingStart (s : State) : Host.Outcome State Fault Refusal :=
  event (active s && s.search.phase == .inFlight)
    (fun s => resumeTouch (onSearch (fun x => { x with phase := .collecting }) s)) s

/-- COLLECTION_END (R162, R165). -/
def execCollectionEnd (s : State) : Host.Outcome State Fault Refusal :=
  event (active s && s.search.phase == .collecting) endCollection s

end Sys2Proof.Machine
end

