-- ==== Sys2Proof/Machine/TouchScan.lean ====
section
/-! DEFINITION. The touch scanner (spec/09): scan periods, measurements, baseline, touch and release, touch
events, and the meanings of its rows. -/

namespace Sys2Proof.Machine

/-- Change one electrode record. -/
def onElectrode (e : Fin 3) (f : Electrode → Electrode) (s : State) : State :=
  { s with touch :=
      { s.touch with electrodes := s.touch.electrodes.set e.val (f (s.touch.electrodes[e])) e.isLt } }

/-! ## Scan periods (R142) -/

/-- The lowest measured electrode with index `i` or above. -/
def nextElectrode (s : State) (i : Nat) : Option (Fin 3) :=
  (List.finRange 3).find? fun e => decide (i ≤ e.val) && measured s e

/-- A scan period starts (R142, R149). -/
def startPeriod (s : State) : State :=
  { s with touch :=
      { s.touch with
        scanElapsed := 0
        scanLength := if s.power.asleep then tScanSleep else tScanAwake
        cutShort := false
        measureElapsed := 0
        measuring := if s.touch.paused then none else nextElectrode s 0 } }

/-- SCAN_PERIOD_START (R142): AWAKE and in SLEEP. The measurements of the period before are over: each ends
within 5 ms (R143). -/
def execScanPeriodStart (s : State) : Host.Outcome State Fault Refusal :=
  event (operating s && s.touch.measuring.isNone) startPeriod s

/-! ## Touch events (R151, R152) -/

/-- A touch event is ignored (R151). -/
def touchIgnored (z : Zone) (s : State) : Bool :=
  s.vehicle.ignition == .on || s.vehicle.ignition == .crank || s.crash.hold ||
  decide (s.supply.value < 90) || (z == .lock && s.pins.doorOpen)

/-- A touch event (R151, R152). -/
def touchEvent (z : Zone) (woke : Bool) (s : State) : State :=
  if touchIgnored z s then s
  else if z = .release ∧ s.latch.target = .unlocked then releaseRequest s
  else touchSearch z woke s

/-! ## Measurements (R143, R145 to R147, R150) -/

/-- The delta D = B div 16 − C (R146). -/
def delta (b c : Nat) : Int := ((b / 16 : Nat) : Int) - (c : Int)

/-- The tracked baseline (R146). -/
def track (b c : Nat) : Nat := ((b : Int) + divTowardZero (16 * (c : Int) - (b : Int)) 64).toNat

/-- The electrode is RELEASED with its counts at 0 (R147, R148). -/
def released (e : Electrode) : Electrode :=
  { e with touched := false, onCount := 0, offCount := 0, touchTime := none, wakeMark := false }

/-- A kept measurement of a RELEASED electrode with a baseline (R146, R150). -/
def keptReleased (asleep : Bool) (b c : Nat) (e : Electrode) : Electrode :=
  if 40 ≤ delta b c then
    if 2 ≤ e.onCount then
      { e with touched := true, onCount := 0, offCount := 0, touchTime := some 0, wakeMark := false }
    else { e with onCount := e.onCount + 1, wakeMark := e.wakeMark || (asleep && e.onCount == 0) }
  else { e with onCount := 0, wakeMark := false, baseline := some (track b c) }

/-- A kept measurement of a TOUCHED electrode (R147). -/
def keptTouched (b c : Nat) (e : Electrode) : Electrode :=
  if delta b c < 25 then (if 2 ≤ e.offCount then released e else { e with offCount := e.offCount + 1 })
  else { e with offCount := 0 }

/-- A kept measurement (R146, R147). -/
def kept (asleep : Bool) (c : Nat) (e : Electrode) : Electrode :=
  let e1 := { e with count := c }
  match e.baseline with
  | none => { e1 with baseline := some (16 * c) }
  | some b => if e.touched then keptTouched b c e1 else keptReleased asleep b c e1

/-- What a kept measurement leads to: a wake (R150) or a touch event (R151). -/
def afterKept (i : Fin 3) (before : Electrode) (s : State) : State :=
  let e := s.touch.electrodes[i]
  if !before.touched && e.touched then touchEvent (electrodeZone i) before.wakeMark s
  else if s.power.asleep && before.onCount == 0 && e.onCount == 1 then wake s
  else s

/-- A measurement of `cycles` counting cycles on electrode `i` (R143, R145, R146). -/
def measure (i : Fin 3) (cycles : Nat) (s : State) : State :=
  let e := s.touch.electrodes[i]
  if 4096 ≤ cycles then
    if e.overflow then s
    else
      capture .touchOverflow (BitVec.ofNat 8 (i.val + 1)) (if e.touched then 1 else 0) 0
        (onElectrode i (fun e => { e with overflow := true }) s)
  else if e.discard then onElectrode i (fun e => { e with discard := false }) s
  else afterKept i e (onElectrode i (kept s.power.asleep cycles) s)

/-- The next measurement of the period begins when one ends, unless the period was cut short or a pause
has begun (R142, R149). -/
def chainMeasurement (i : Fin 3) (s : State) : State :=
  { s with touch :=
      { s.touch with
        measureElapsed := 0
        measuring :=
          if s.touch.cutShort || s.touch.paused then none else nextElectrode s (i.val + 1) } }

/-- The end of the measurement in progress. -/
def measurementOver (cycles : Nat) (s : State) : State :=
  match s.touch.measuring with
  | none => s
  | some i => chainMeasurement i (measure i cycles s)

/-- MEASUREMENT_END (R143 to R147, R150 to R152): AWAKE and in SLEEP. -/
def execMeasurementEnd (cycles : Nat) (s : State) : Host.Outcome State Fault Refusal :=
  event (operating s && s.touch.measuring.isSome) (measurementOver cycles) s

/-- TOUCH_STUCK_EXPIRY (R148): AWAKE and in SLEEP, but not in a measurement pause, which holds the touch time
(R149). -/
def execTouchStuckExpiry (electrode : Fin 3) (s : State) : Host.Outcome State Fault Refusal :=
  event (operating s && !s.touch.paused && measured s electrode && (s.touch.electrodes[electrode]).touched)
    (onElectrode electrode fun e => { released e with baseline := some (16 * e.count) }) s

end Sys2Proof.Machine
end

