-- ==== Sys2Proof/Machine/Settings.lean ====
section
/-! DEFINITION. The settings store (spec/12, section 12.4) and the service telegrams (spec/11, section
11.6): loading, writes, service tests, their application and answers, and the meanings of the two write
rows. -/

namespace Sys2Proof.Machine

/-! ## Records -/

/-- The name of a record's contents. -/
def RecordContents.name : RecordContents → RecordName
  | .optionSet _ => .optionSet
  | .windowRecord _ => .windowRecord
  | .fobEntry f _ => .fobEntry f

/-- The contents of a record as they stand (R184). -/
def recordNow (r : RecordName) (s : State) : RecordContents :=
  match r with
  | .optionSet => .optionSet s.settings.optionImage
  | .windowRecord =>
    .windowRecord
      { knowledge := s.window.knowledge, pTop := s.window.pTop, restPosition := s.window.restPosition
        profile := s.pinch.profile, movingMarker := s.window.movingMarker }
  | .fobEntry f =>
    let e := s.fobs[f]
    .fobEntry f { enrolled := e.enrolled, key := e.key, counter := e.counter }

/-- The check that a write leaves: the record's own, or one that fails (R177, R183, R184;
notes/assumptions/18.md). -/
def writtenCheck (c : RecordContents) (ok : Bool) : Byte := if ok then recordCheck c else ~~~recordCheck c

/-- A write ends in the stored copy; `ok` says that its check passes (R183, R184). -/
def storeRecord (c : RecordContents) (ok : Bool) (st : Store) : Store :=
  let check := writtenCheck c ok
  match c with
  | .optionSet o => { st with options := o, optionsCheck := check }
  | .windowRecord w => { st with window := w, windowCheck := check }
  | .fobEntry f e =>
    { st with fobs := st.fobs.set f.val e f.isLt, fobsCheck := st.fobsCheck.set f.val check f.isLt }

/-- A write in progress is cut off: its record is torn (R177). -/
def tornStore (s : State) : Store :=
  match s.settings.write with
  | some w => storeRecord w.contents false s.settings.store
  | none => s.settings.store

/-! ## Writes (R184, R175) -/

/-- The oldest record of the pending-write set starts its write (R184). -/
def startWrite (s : State) : State :=
  match s.settings.writes with
  | [] => s
  | r :: rest =>
    { s with settings :=
        { s.settings with
          writes := rest
          write := some { contents := recordNow r s, elapsed := 0 }
          awaited := s.settings.awaited.map fun a =>
            if a.record = r then { a with started := true } else a } }

/-- NVM_WRITE_START (R184). -/
def execNvmWriteStart (s : State) : Host.Outcome State Fault Refusal :=
  event (operating s && s.settings.write.isNone && !s.settings.writes.isEmpty) startWrite s

/-- The first detail value of NVM_WRITE (R184). -/
def recordByte : RecordName → Byte
  | .optionSet => 0
  | .windowRecord => 1
  | .fobEntry f => BitVec.ofNat 8 (2 + f.val)

/-- A service answer (R172, R175). -/
def placeAnswer (k : Subtype) (result : Byte) (s : State) : State :=
  (place (ownTelegram s kServiceack [subtypeCode k, result]) s).1

/-- The awaited answer at the end of a write (R175). -/
def answerWrite (r : RecordName) (ok : Bool) (s : State) : State :=
  match s.settings.awaited with
  | some a =>
    if a.record = r ∧ a.started = true then
      placeAnswer a.subtype (if ok then ackDone else ackNvmFail)
        { s with settings := { s.settings with awaited := none } }
    else s
  | none => s

/-- The end of the write in progress (R184). -/
def endWrite (ok : Bool) (s : State) : State :=
  match s.settings.write with
  | none => s
  | some w =>
    let r := w.contents.name
    let s1 : State :=
      { s with settings :=
          { s.settings with write := none, store := storeRecord w.contents ok s.settings.store } }
    answerWrite r ok (if ok then s1 else capture .nvmWrite (recordByte r) 0 0 s1)

/-- NVM_WRITE_END (R175, R184). -/
def execNvmWriteEnd (readBackMatches : Bool) (s : State) : Host.Outcome State Fault Refusal :=
  event (operating s && s.settings.write.isSome) (endWrite readBackMatches) s

/-! ## Service (R172 to R174) -/

/-- A bad argument (R172, test 1). -/
def badArgument (k : Subtype) (args : List Byte) (s : State) : Bool :=
  match k with
  | .enrol => decide (3 < (args.getD 0 0).toNat)
  | .option => !optionBytesValid args
  | .forgetWindow => isTailgate s
  | .clearfault => false

/-- The conditions of R172, test 3. -/
def serviceConditions (s : State) : Bool :=
  s.vehicle.ignition == .on && s.vehicle.speed == some 0 && s.latch.target == .unlocked

/-- The window moves (R172, test 4). -/
def windowBusy (s : State) : Bool := s.window.move.isSome || s.window.bridge != .off

/-- A record is marked and its write answers (R173, R174). -/
def awaitWrite (k : Subtype) (r : RecordName) (s : State) : State :=
  let s1 := markRecord r s
  { s1 with settings := { s1.settings with awaited := some { subtype := k, record := r, started := false } } }

/-- The eight argument bytes of an ENROL (section 1.9). -/
def enrolEntry (args : List Byte) : Fob :=
  let b (i : Nat) : Byte := args.getD i 0
  { enrolled := true, key := b 1 ++ b 2 ++ b 3 ++ b 4, counter := b 5 ++ b 6 ++ b 7
    lastTag := none, candidate := none }

/-- An applied ENROL (R173). -/
def applyEnrol (args : List Byte) (s : State) : State :=
  let f := capFin 3 (args.getD 0 0).toNat
  awaitWrite .enrol (.fobEntry f) { s with fobs := s.fobs.set f.val (enrolEntry args) f.isLt }

/-- An applied OPTION (R173). -/
def applyOption (args : List Byte) (s : State) : State :=
  match decodeOption args with
  | some o => awaitWrite .option .optionSet { s with settings := { s.settings with optionImage := o } }
  | none => s

/-- An applied CLEARFAULT (R174, R182). -/
def applyClearfault (s : State) : State :=
  placeAnswer .clearfault ackDone
    { s with
      faults := { record := none, summary := 0 }
      touch :=
        { s.touch with electrodes := vmap (fun e => { e with overflow := false }) s.touch.electrodes } }

/-- An applied FORGET_WINDOW (R174). -/
def applyForget (s : State) : State :=
  awaitWrite .forgetWindow .windowRecord
    (onPinch (fun m => { m with profile := unlearned })
      (onWindow (fun w => { w with knowledge := .unpositioned, pTop := none }) s))

/-- An applied SERVICE (R172, test 5). -/
def applyService (k : Subtype) (args : List Byte) (s : State) : State :=
  match k with
  | .enrol => applyEnrol args s
  | .option => applyOption args s
  | .clearfault => applyClearfault s
  | .forgetWindow => applyForget s

/-- A SERVICE handed to its owner (R172). -/
def takeService (k : Subtype) (target : Byte) (args : List Byte) (s : State) : State :=
  if target.toNat ≠ (ownNumber s).val then s
  else if badArgument k args s then placeAnswer k ackBadArgument s
  else if s.settings.awaited.isSome then placeAnswer k ackRefused s
  else if !serviceConditions s then placeAnswer k ackRefused s
  else if k == .forgetWindow && windowBusy s then placeAnswer k ackRefused s
  else applyService k args s

end Sys2Proof.Machine
end

