-- ==== Sys2Proof/Machine/FobCheck.lean ====
section
/-! DEFINITION. The fob check unit and the RF frame receiver (spec/11): the code check, the counter
window, dispatch to lock logic, window drive, the release record and the search unit, and the meanings of
the two RF rows. -/

namespace Sys2Proof.Machine

/-! ## Lock logic's share (R70, R71, R79) -/

/-- A fob LOCK frame at lock logic (R70). -/
def fobLock (f : Fin 4) (counter : BitVec 24) (s : State) : State :=
  if s.lock.deadlockWindow.isSome then takeDeadlock (.fob f counter) .fobButton 0 false s
  else takeLock (.fob f counter) .fobButton 0 false s

/-- The driver station's record lets a fob UNLOCK through (R71). -/
def driverUnlocked (p : Peer) : Bool :=
  match p.presence, p.lastState with
  | .lost, _ => true
  | .neverHeard, _ => true
  | .present, none => true
  | .present, some c => c.target == .unlocked
  | .asleep, some c => c.target == .unlocked
  | .asleep, none => false

/-- The selective rule holds the frame back (R71). -/
def heldBack (s : State) : Bool :=
  s.settings.options.selective && !isDriverStation s && !driverUnlocked (peer s (driverNumber s.straps))

/-- A fob UNLOCK frame at lock logic (R71). -/
def fobUnlock (f : Fin 4) (counter : BitVec 24) (s : State) : State :=
  if heldBack s then s else takeUnlock (.fob f counter) .fobButton false s

/-- A fob command reaches lock logic (R79): standalone, only from the own RF line. -/
def reachesLock (ownLine : Bool) (s : State) : Bool := ownLine || !standalone s

/-! ## The code check and the counter window (R169, R170) -/

/-- The report passes the code check (R169). -/
def verified (r : FobReport) (e : Fob) : Bool := e.enrolled && r.tag == fobCode e.key r

/-- Outcomes of the counter window (R170). -/
inductive CounterResult where
  | duplicate | accepted | candidate | rejected
  deriving DecidableEq, Repr

/-- The counter window (R170): the tests in order. -/
def counterWindow (r : FobReport) (e : Fob) : CounterResult :=
  let c := r.counter.toNat
  let last := e.counter.toNat
  if c = last ∧ e.lastTag = some r.tag then .duplicate
  else if (match e.candidate with
      | some k => c == k.toNat + 1 || c == k.toNat + 2
      | none => false) then .accepted
  else if last + 1 ≤ c ∧ c ≤ last + 32 then .accepted
  else if last + 33 ≤ c ∧ c ≤ last + 4096 then .candidate
  else .rejected

/-- The entry afterwards (R170). -/
def countedEntry (x : CounterResult) (r : FobReport) (e : Fob) : Fob :=
  match x with
  | .duplicate => e
  | .accepted => { e with counter := r.counter, lastTag := some r.tag, candidate := none }
  | .candidate => { e with candidate := some r.counter }
  | .rejected => { e with candidate := none }

/-! ## Dispatch (R171) -/

/-- An accepted report is dispatched (R171). -/
def dispatchReport (ownLine : Bool) (r : FobReport) (s : State) : State :=
  match r.command with
  | .lock => fobLockWindow (if reachesLock ownLine s then fobLock r.fob r.counter s else s)
  | .unlock => fobUnlockWindow (if reachesLock ownLine s then fobUnlock r.fob r.counter s else s)
  | .tailgate => if isTailgate s then releaseRequest s else s
  | .closeAll => globalFrame .up s
  | .openAll => globalFrame .down s
  | .searchReply => takeReadings r.fob r.search r.readings s

/-- The fob check unit takes a report (R169 to R171). -/
def takeReport (ownLine : Bool) (r : FobReport) (s : State) : State :=
  let e := s.fobs[r.fob]
  if verified r e then
    let x := counterWindow r e
    let s1 : State := { s with fobs := s.fobs.set r.fob.val (countedEntry x r e) r.fob.isLt }
    if x = .accepted then dispatchReport ownLine r (markRecord (.fobEntry r.fob) s1) else s1
  else s

/-! ## The RF frame receiver (R166, R167) -/

/-- Change the receiver. -/
def onRf (f : Rf → Rf) (s : State) : State := { s with rf := f s.rf }

/-- A frame is dropped (R166). -/
def dropFrame (_ : Rf) : Rf := { phase := .quiet, bytes := [], gap := 0 }

/-- The search number byte of a frame (R167): 0, or a station with a local count of 1 to 31. -/
def frameNumberValid (b : Byte) : Bool :=
  b == 0 || (b.extractLsb' 0 5 != 0 && decide ((b.extractLsb' 5 3).toNat ≤ 4))

/-- The expected length after the third byte; `none` when that byte fails its check (R167). -/
def frameLength (number fobByte : Byte) : Option Nat :=
  match decodeFobByte fobByte with
  | some (_, .searchReply) => if number = 0 then none else some 16
  | some (_, _) => if number = 0 then some 10 else none
  | none => none

/-- What the bytes assembled so far amount to. -/
inductive FrameCheck where
  | goesOn | dropped | complete
  deriving DecidableEq, Repr

/-- The checks at the byte positions (R167). -/
def checkFrame (bytes : List Byte) : FrameCheck :=
  match bytes with
  | [_, number] => if frameNumberValid number then .goesOn else .dropped
  | _ :: number :: fb :: rest =>
    match frameLength number fb with
    | some n => if rest.length + 3 < n then .goesOn else .complete
    | none => .dropped
  | _ => .goesOn

/-- A well-formed frame is relayed and taken (R167). -/
def frameComplete (payload : List Byte) (s : State) : State :=
  match decodeFobReport payload with
  | some r => takeReport true r (place (ownTelegram s kFobreport payload) s).1
  | none => s

/-- A byte while ASSEMBLING (R166). -/
def assemble (value : Byte) (framingError : Bool) (s : State) : State :=
  if framingError then onRf dropFrame s
  else
    let bytes := s.rf.bytes ++ [value]
    match checkFrame bytes with
    | .goesOn => onRf (fun _ => { phase := .assembling, bytes, gap := 0 }) s
    | .dropped => onRf dropFrame s
    | .complete => frameComplete (bytes.drop 1) (onRf (fun _ => { phase := .idle, bytes := [], gap := 0 }) s)

/-- A byte on the RF data line (R166). -/
def rfByte (value : Byte) (framingError : Bool) (s : State) : State :=
  match s.rf.phase with
  | .idle =>
    if value = 0x5A ∧ framingError = false then
      onRf (fun _ => { phase := .assembling, bytes := [value], gap := 0 }) (wake s)
    else s
  | .assembling => assemble value framingError s
  | .quiet => onRf (fun r => { r with gap := 0 }) s

/-- RF_BYTE (R166, R167): AWAKE and in SLEEP, at an RF-attached station. -/
def execRfByte (value : Byte) (framingError : Bool) (s : State) : Host.Outcome State Fault Refusal :=
  event (operating s && s.straps.rfAttached) (rfByte value framingError) s

/-- 3 ms without a byte (R166). -/
def rfGap (r : Rf) : Rf :=
  match r.phase with
  | .idle => r
  | .assembling => dropFrame r
  | .quiet => { phase := .idle, bytes := [], gap := 0 }

/-- RF_GAP_TIMEOUT (R166). -/
def execRfGapTimeout (s : State) : Host.Outcome State Fault Refusal :=
  event (operating s && s.straps.rfAttached && s.rf.phase != .idle) (onRf rfGap) s

end Sys2Proof.Machine
end

