-- ==== Sys2Proof/Machine/Dispatcher.lean ====
section
/-! DEFINITION. The dispatcher and the roster (spec/01 section 1.7, spec/02): evidence, STATE and VEHICLE,
the duplicate filter, the meanings of the rows under which a telegram is taken, and the roster's timer
rows. -/

namespace Sys2Proof.Machine

/-! ## Peer records (R29 to R32, R42) -/

/-- Change one peer record. -/
def onPeer (n : Fin 8) (f : Peer → Peer) (s : State) : State :=
  { s with roster :=
      { s.roster with peers := s.roster.peers.set n.val (f (peer s n)) n.isLt } }

/-- Change the presence of a peer record. What the roster showed before is remembered for 80 µs, because an
acknowledge field may have ended before the change (R9; notes/assumptions/54.md). -/
def onPresence (n : Fin 8) (f : Peer → Peer) (s : State) : State :=
  let s1 := onPeer n f s
  if shownNodes s1 = shownNodes s then s1
  else
    { s1 with roster :=
        { s1.roster with
          earlier :=
            (s.roster.earlier ++ [RosterPast.mk s.now (shownNodes s)]).filter fun x =>
              decide (s.now < x.upTo + tEndField) } }

/-- A peer's filter entries are cleared, with its last crash number (R30, R31, R42, R92). -/
def clearFilters (n : Fin 8) (s : State) : State :=
  setCrashNumber n 0 (onPeer n (fun p => { p with lockreqFilter := none, windowreqFilter := none }) s)

/-- Evidence from a telegram that is not a STATE (R29), with its peer change (R32). -/
def evidence (n : Fin 8) (s : State) : State :=
  let s1 := onPresence n (fun p => { p with presence := .present, age := 0 }) s
  if (peer s n).presence = .present then s1 else peerChange n false s1

/-- The JOINING marker is raised (R30). -/
def raisesJoining (old : Option StateContents) (c : StateContents) : Bool :=
  c.joining && match old with | some o => !o.joining | none => true

/-- The door open flag is newly set (R40, R73). -/
def raisesDoor (old : Option StateContents) (c : StateContents) : Bool :=
  c.doorOpen && match old with | some o => !o.doorOpen | none => true

/-- A STATE from node `n` (R29, R30, R32, R40). -/
def takeState (n : Fin 8) (c : StateContents) (s : State) : State :=
  let old := peer s n
  let presence : Presence := if c.sleeping then .asleep else .present
  let s1 := onPresence n (fun p => { p with presence, age := 0, lastState := some c }) s
  let s2 := if raisesJoining old.lastState c then clearFilters n s1 else s1
  let opened := raisesDoor old.lastState c
  let s3 := if opened && (n == 0 || n == 1) then endAfterRun s2 else s2
  if old.presence = presence ∧ old.lastState = some c then s3 else peerChange n opened s3

/-! ## Vehicle status (R37 to R40) -/

/-- The speed of a speed byte (R37 step 1). -/
def speedOf (v : Byte) : Option Nat := if v = 255 then none else some v.toNat

/-- Ignition ON or CRANK. -/
def ignitionRuns (i : Ignition) : Bool := i == .on || i == .crank

/-- The vehicle status after a VEHICLE (R37, R39, R40). -/
def vehicleTelegram (v : Byte) (i : Ignition) (x : Vehicle) : Vehicle :=
  { speed := speedOf v
    ignition := i
    hold := some tVehicleHold
    offSeen := if i = .off then true else if ignitionRuns i then false else x.offSeen
    afterRun :=
      if ignitionRuns i then none
      else if ignitionRuns x.ignition then some tAfterRun else x.afterRun }

/-- The vehicle change event (R32): delivered to lock logic and window drive when a value changed. -/
def vehicleChange (old : Vehicle) (s : State) : State :=
  if s.vehicle.speed = old.speed ∧ s.vehicle.ignition = old.ignition then s
  else
    let s1 := vehicleChangeLock s
    if s.vehicle.ignition = .crank ∧ old.ignition ≠ .crank then crankWindow s1 else s1

/-- A VEHICLE from node 6 (R37). -/
def takeVehicle (v : Byte) (i : Ignition) (s : State) : State :=
  let old := s.vehicle
  let s1 : State := { s with vehicle := vehicleTelegram v i old }
  let s2 := if ignitionRuns i && old.offSeen then armDriveAway (endCrashHold s1) else s1
  vehicleChange old s2

/-! ## The duplicate filter (R41) -/

/-- Whether a sequence is a copy. -/
def isCopy (e : Option FilterEntry) (q : Byte) : Bool :=
  match e with
  | some e => e.sequence == q
  | none => false

/-- A LOCKREQ from `n` with sequence `q`: `f` runs when it is no copy. -/
def filterLockreq (n : Fin 8) (q : Byte) (f : State → State) (s : State) : State :=
  if isCopy (peer s n).lockreqFilter q then s
  else f (onPeer n (fun p => { p with lockreqFilter := some ⟨q, tFilterLife⟩ }) s)

/-- A WINDOWREQ from `n` with sequence `q`: `f` runs when it is no copy. -/
def filterWindowreq (n : Fin 8) (q : Byte) (f : State → State) (s : State) : State :=
  if isCopy (peer s n).windowreqFilter q then s
  else f (onPeer n (fun p => { p with windowreqFilter := some ⟨q, tFilterLife⟩ }) s)

/-- A central LOCKREQ taken (R29, R41, R63). -/
def takeCentral (n : Fin 8) (a : CentralAction) (cause : LockCause) (q number : Byte) (s : State) :
    State :=
  filterLockreq n q (takeRequest a (.node n q) cause number false) (evidence n s)

/-- A child LOCKREQ taken (R29, R41, R83). -/
def takeChild (n : Fin 8) (on : Bool) (q : Byte) (s : State) : State :=
  filterLockreq n q (takeChildRequest on) (evidence n s)

/-- A WINDOWREQ taken (R29, R41, R103). -/
def takeWindowreq (n : Fin 8) (targets : Byte) (a : WindowAction) (q : Byte) (s : State) : State :=
  filterWindowreq n q
    (fun s =>
      if targets.getLsbD (ownNumber s).val && hasWindow s then windowRequest a s else s)
    (evidence n s)

/-- A central LOCKREQ at the head of the queue. -/
def onCentral (m : Message) (_ : Nat) (s : State) : State :=
  match m with
  | .central n a cause q number => takeCentral n a cause q number s
  | _ => s

/-- A child LOCKREQ at the head of the queue. -/
def onChild (m : Message) (_ : Nat) (s : State) : State :=
  match m with
  | .childRequest n on q => takeChild n on q s
  | _ => s

/-- A WINDOWREQ at the head of the queue. -/
def onWindowreq (m : Message) (_ : Nat) (s : State) : State :=
  match m with
  | .windowreq n targets a q => takeWindowreq n targets a q s
  | _ => s

/-- A SERVICE at the head of the queue; its evidence is node 7's. -/
def onService (m : Message) (_ : Nat) (s : State) : State :=
  match m with
  | .service k target args => takeService k target args (evidence 7 s)
  | _ => s

/-- A FOBREPORT at the head of the queue, with origin BUS (R167). -/
def onFobreport (m : Message) (_ : Nat) (s : State) : State :=
  match m with
  | .fobReport n r => takeReport false r (evidence n s)
  | _ => s

/-- A telegram that serves only as evidence (R18). -/
def onEvidence (m : Message) (_ : Nat) (s : State) : State :=
  match m with
  | .fault n => evidence n s
  | .serviceack n => evidence n s
  | _ => s

/-- A STATE at the head of the queue. -/
def onState (m : Message) (_ : Nat) (s : State) : State :=
  match m with
  | .state n c => takeState n c s
  | _ => s

/-- A VEHICLE at the head of the queue. -/
def onVehicle (m : Message) (_ : Nat) (s : State) : State :=
  match m with
  | .vehicle v i => takeVehicle v i (evidence 6 s)
  | _ => s

/-- A PINCH at the head of the queue. -/
def onPinchTelegram (m : Message) (_ : Nat) (s : State) : State :=
  match m with
  | .pinch n => peerPinch (evidence n s)
  | _ => s

/-- A SEARCH at the head of the queue, with its end instant. -/
def onSearchTelegram (m : Message) (t : Nat) (s : State) : State :=
  match m with
  | .search n number slots => takeSearch number slots t (evidence n s)
  | _ => s

/-- A CRASH at the head of the queue. -/
def onCrash (m : Message) (_ : Nat) (s : State) : State :=
  match m with
  | .crash n x => takeCrash n x (evidence n s)
  | _ => s

/-! ## Meanings: taken telegrams -/

/-- DISPATCH_DISCARD (R18). -/
def execDispatchDiscard (s : State) : Host.Outcome State Fault Refusal :=
  taking .dispatchDiscard (fun _ _ s => s) s
/-- STATE_TAKEN (R29, R30, R32, R40). -/
def execStateTaken (s : State) : Host.Outcome State Fault Refusal := taking .stateTaken onState s
/-- VEHICLE_TAKEN (R37). -/
def execVehicleTaken (s : State) : Host.Outcome State Fault Refusal := taking .vehicleTaken onVehicle s
/-- FAULT_TAKEN (R18, R29). -/
def execFaultTaken (s : State) : Host.Outcome State Fault Refusal := taking .faultTaken onEvidence s
/-- SERVICEACK_TAKEN (R18, R29). -/
def execServiceackTaken (s : State) : Host.Outcome State Fault Refusal :=
  taking .serviceackTaken onEvidence s
/-- LOCKREQ_LOCK (R66). -/
def execLockreqLock (s : State) : Host.Outcome State Fault Refusal := taking .lockreqLock onCentral s
/-- LOCKREQ_DEADLOCK (R63, R68). -/
def execLockreqDeadlock (s : State) : Host.Outcome State Fault Refusal :=
  taking .lockreqDeadlock onCentral s
/-- LOCKREQ_UNLOCK (R69). -/
def execLockreqUnlock (s : State) : Host.Outcome State Fault Refusal :=
  taking .lockreqUnlock onCentral s
/-- LOCKREQ_CHILD_ON (R83). -/
def execLockreqChildOn (s : State) : Host.Outcome State Fault Refusal :=
  taking .lockreqChildOn onChild s
/-- LOCKREQ_CHILD_OFF (R83). -/
def execLockreqChildOff (s : State) : Host.Outcome State Fault Refusal :=
  taking .lockreqChildOff onChild s
/-- WINDOWREQ_MANUAL_UP (R103). -/
def execWindowreqManualUp (s : State) : Host.Outcome State Fault Refusal :=
  taking .windowreqManualUp onWindowreq s
/-- WINDOWREQ_MANUAL_DOWN (R103). -/
def execWindowreqManualDown (s : State) : Host.Outcome State Fault Refusal :=
  taking .windowreqManualDown onWindowreq s
/-- WINDOWREQ_AUTO_UP (R103). -/
def execWindowreqAutoUp (s : State) : Host.Outcome State Fault Refusal :=
  taking .windowreqAutoUp onWindowreq s
/-- WINDOWREQ_AUTO_DOWN (R103). -/
def execWindowreqAutoDown (s : State) : Host.Outcome State Fault Refusal :=
  taking .windowreqAutoDown onWindowreq s
/-- WINDOWREQ_STOP (R103). -/
def execWindowreqStop (s : State) : Host.Outcome State Fault Refusal :=
  taking .windowreqStop onWindowreq s
/-- PINCH_TAKEN (R138). -/
def execPinchTaken (s : State) : Host.Outcome State Fault Refusal := taking .pinchTaken onPinchTelegram s
/-- SEARCH_TAKEN (R157). -/
def execSearchTaken (s : State) : Host.Outcome State Fault Refusal :=
  taking .searchTaken onSearchTelegram s
/-- CRASH_TAKEN (R92). -/
def execCrashTaken (s : State) : Host.Outcome State Fault Refusal := taking .crashTaken onCrash s
/-- SERVICE_ENROL (R172, R173). -/
def execServiceEnrol (s : State) : Host.Outcome State Fault Refusal := taking .serviceEnrol onService s
/-- SERVICE_OPTION (R172, R173). -/
def execServiceOption (s : State) : Host.Outcome State Fault Refusal :=
  taking .serviceOption onService s
/-- SERVICE_CLEARFAULT (R172, R174). -/
def execServiceClearfault (s : State) : Host.Outcome State Fault Refusal :=
  taking .serviceClearfault onService s
/-- SERVICE_FORGET_WINDOW (R172, R174). -/
def execServiceForgetWindow (s : State) : Host.Outcome State Fault Refusal :=
  taking .serviceForgetWindow onService s
/-- FOB_LOCK (R70, R169 to R171). -/
def execFobLock (s : State) : Host.Outcome State Fault Refusal := taking .fobLock onFobreport s
/-- FOB_UNLOCK (R71, R169 to R171). -/
def execFobUnlock (s : State) : Host.Outcome State Fault Refusal := taking .fobUnlock onFobreport s
/-- FOB_TAILGATE (R80, R169 to R171). -/
def execFobTailgate (s : State) : Host.Outcome State Fault Refusal := taking .fobTailgate onFobreport s
/-- FOB_CLOSE_ALL (R132, R169 to R171). -/
def execFobCloseAll (s : State) : Host.Outcome State Fault Refusal := taking .fobCloseAll onFobreport s
/-- FOB_OPEN_ALL (R132, R169 to R171). -/
def execFobOpenAll (s : State) : Host.Outcome State Fault Refusal := taking .fobOpenAll onFobreport s
/-- FOB_SEARCH_REPLY (R163, R169 to R171). -/
def execFobSearchReply (s : State) : Host.Outcome State Fault Refusal :=
  taking .fobSearchReply onFobreport s

/-! ## Meanings: the roster's timers -/

/-- PEER_LOST (R31, R32, R42, R92). -/
def execPeerLost (node : Fin 8) (s : State) : Host.Outcome State Fault Refusal :=
  event (active s && (peer s node).presence == .present)
    (fun s =>
      peerChange node false
        (clearFilters node (onPresence node (fun p => { p with presence := .lost }) s))) s

/-- STATE_PERIOD_EXPIRY (R34). -/
def execStatePeriodExpiry (s : State) : Host.Outcome State Fault Refusal :=
  event (active s && s.roster.period.isSome) placeState s

/-- VEHICLE_HOLD_EXPIRY (R38). -/
def execVehicleHoldExpiry (s : State) : Host.Outcome State Fault Refusal :=
  event (active s && s.vehicle.hold.isSome)
    (fun s =>
      vehicleChange s.vehicle
        { s with vehicle := { s.vehicle with speed := none, ignition := .off, hold := none } }) s

/-- AFTER_RUN_EXPIRY (R40). -/
def execAfterRunExpiry (s : State) : Host.Outcome State Fault Refusal :=
  event (active s && s.vehicle.afterRun.isSome) endAfterRun s

/-- A filter entry of a record. -/
def filterEntry (k : FilterKind) (p : Peer) : Option FilterEntry :=
  match k with
  | .lockreq => p.lockreqFilter
  | .windowreq => p.windowreqFilter

/-- A filter entry becomes empty. -/
def emptyFilter (k : FilterKind) (p : Peer) : Peer :=
  match k with
  | .lockreq => { p with lockreqFilter := none }
  | .windowreq => { p with windowreqFilter := none }

/-- FILTER_LIFE_EXPIRY (R41). -/
def execFilterLifeExpiry (node : Fin 8) (kind : FilterKind) (s : State) :
    Host.Outcome State Fault Refusal :=
  event (active s && (filterEntry kind (peer s node)).isSome) (onPeer node (emptyFilter kind)) s

end Sys2Proof.Machine
end

