-- ==== Sys2Proof/Machine/LinkRows.lean ====
section
/-! DEFINITION. The zone bus link (spec/01): attempts and their outcomes, reception, link states, and the
meanings of its rows. What a line bit does is not modelled; a row brings what the station read. -/

namespace Sys2Proof.Machine

/-- Change the link. -/
def onLink (f : Link → Link) (s : State) : State := { s with link := f s.link }

/-- The link's receiver and sender are at work: running and AWAKE (R23, R27). -/
def reading (s : State) : Bool := running s && !s.power.asleep

/-- The entry whose attempt is in progress. -/
def attempting (l : Link) : Option TxEntry := l.tx.find? (·.inAttempt)

/-- The station's own acknowledge slot as a set (R8). -/
def ownSlot (s : State) : Byte := BitVec.twoPow 8 (ownNumber s).val

/-! ## Attempts (R4 to R6, R9 to R11) -/

/-- The head's attempt begins (R4). -/
def startHead : List TxEntry → List TxEntry
  | [] => []
  | e :: es => { e with inAttempt := true } :: es

/-- Recessive bits required before an own start (R1, R4). -/
def idleBits (l : Link) : Nat := if l.synchronised then 10 else 20

/-- The line is idle: 10 recessive bits have been read outside a telegram, so those of an end field do not
count (R1). -/
def lineIdle (l : Link) : Bool := l.level == .recessive && decide (10 * tBit ≤ l.recessiveFor)

/-- A reading of the line outside a telegram: the last `recessiveBits` bits were recessive, and with 0 of them
the last bit was dominant. A dominant bit at an idle line is the start bit of a telegram (R1, R4); any other is
counted, from the first of its run on (R21), and a recessive one ends that count (R21, R22). -/
def lineRead (recessiveBits : Nat) (l : Link) : Link :=
  if recessiveBits ≠ 0 then
    { l with
      level := .recessive, dominantFor := 0, recessiveFor := min tStuckRelease (recessiveBits * tBit) }
  else if lineIdle l then
    { l with insideTelegram := true, level := .dominant, dominantFor := 0, recessiveFor := 0, tailFor := 0 }
  else
    { l with
      level := .dominant, recessiveFor := 0, tailFor := 0
      dominantFor := if l.level = .dominant then l.dominantFor else tBit }

/-- The link may start an attempt after `recessiveBits` recessive bits outside a telegram (R4). -/
def mayStart (recessiveBits : Nat) (s : State) : Bool :=
  active s && s.link.state != .stuck && !s.link.tx.isEmpty && decide (idleBits s.link ≤ recessiveBits)

/-- ATTEMPT_START (R4): `recessiveBits` consecutive recessive bits have been read outside a telegram. Where R4
starts no attempt after them, the command is that reading alone (notes/assumptions/11.md). -/
def execAttemptStart (recessiveBits : Nat) (s : State) : Host.Outcome State Fault Refusal :=
  event (reading s && !s.link.insideTelegram) (fun s =>
    let s1 := onLink (lineRead recessiveBits) s
    if mayStart recessiveBits s then onLink (fun l => { l with insideTelegram := true, tx := startHead l.tx }) s1
    else s1) s

/-- An entry whose attempt is over; a waiting replacement takes it over as a fresh entry (R13, R14). -/
def refreshed (e : TxEntry) : TxEntry :=
  match e.waiting with
  | some t => freshEntry t
  | none => { e with inAttempt := false }

/-- ARBITRATION_LOSS (R5): the entry stays with its attempt count, and the station is a receiver. A SEARCH whose
withdrawal was asked in this attempt stays as well (notes/assumptions/52.md). -/
def execArbitrationLoss (s : State) : Host.Outcome State Fault Refusal :=
  event (active s && (attempting s.link).isSome)
    (onLink fun l => { l with tx := l.tx.map fun e => if e.inAttempt then refreshed e else e }) s

/-- Kinds that are sent once (R10). -/
def sentOnce (k : BitVec 4) : Bool := k == kState || k == kSearch || k == kServiceack

/-- What becomes of an entry at the end of its attempt (R10, R13, R14): the list that replaces it. -/
def entryAfter (held : Bool) (missing : Byte) (e : TxEntry) : List TxEntry :=
  match e.waiting with
  | some t => [freshEntry t]
  | none =>
    if sentOnce e.telegram.kind || held || decide (3 ≤ e.attempts + 1) then []
    else [{ e with attempts := e.attempts + 1, missing, inAttempt := false }]

/-- The STATE that carries the sleeping flag has its outcome (R179). Flag sent becomes yes, or sleep entry
is abandoned. -/
def stateOutcome (collided : Bool) (s : State) : State :=
  if s.power.entry = .announcing ∧ s.power.flagSent = false then
    if collided then
      { s with power := { s.power with entry := .none, settle := none, sleepingFlag := false } }
    else { s with power := { s.power with flagSent := true } }
  else s

/-- SETTLING begins at the later of 2 s of quiet and flag sent (R179). -/
def trySettle (s : State) : State :=
  if s.power.entry = .announcing ∧ s.power.flagSent = true ∧ tQuiet ≤ s.power.quiet then
    { s with
      power := { s.power with entry := .settling, settle := some 0 }
      roster := { s.roster with period := none } }
  else s

/-- An own central LOCKREQ, by its sequence (R64): a child LOCKREQ is not recorded (R86). -/
def centralSequence (t : Telegram) : Option Byte :=
  if t.kind = kLockreq ∧ payloadByte t 1 ≠ 4 then some (payloadByte t 2) else none

/-- The outcome of an entry at its block (R11, R65, R155, R156, R179): `collided` and `last` (the entry
left the queue by its attempts, or was sent once). -/
def deliverOutcome (collided left : Bool) (t : Telegram) (s : State) : State :=
  if t.kind = kState then trySettle (stateOutcome collided (stateAttemptEnded s))
  else if t.kind = kSearch then searchOutcome t (!collided) s
  else
    match centralSequence t with
    | some q => if left then requestOutcome q true s else s
    | none => s

/-- An attempt has ended with the given slots (R9 to R11). The expected ackers are those of the instant at which
its acknowledge field ended, one end field before; a collided attempt has no such field, and the roster is read
at its end (notes/assumptions/54.md). -/
def endAttempt (slots : Byte) (collided : Bool) (s : State) : State :=
  match attempting s.link with
  | none => s
  | some e =>
    let missing := expectedAckers (if collided then 0 else tEndField) s &&& ~~~slots
    let held := !collided && missing == 0
    let s1 := onLink (fun l =>
      { l with tx := l.tx.flatMap fun x => if x.inAttempt then entryAfter held missing x else [x] }) s
    let s2 : State :=
      { s1 with power :=
          { s1.power with settle := if s1.power.entry = .settling then some 0 else s1.power.settle } }
    let failed := !sentOnce e.telegram.kind && !held && decide (3 ≤ e.attempts + 1)
    let s3 :=
      if failed then captureAwake .busNoack (e.telegram.kind.setWidth 8) (missing &&& 0x1F) 3 s2 else s2
    deliverOutcome collided (held || failed) e.telegram s3

/-- The station is confirmed on the bus (R19, R20). -/
def heard (l : Link) : Link :=
  match l.state with
  | .joining | .joined | .isolated => { l with state := .joined, isolation := some 0 }
  | .stuck => l

/-- COLLISION (R6, R10): the attempt counts, with no slot; the station reads on, and knows its own telegram
again (R8). -/
def execCollision (s : State) : Host.Outcome State Fault Refusal :=
  event (active s && (attempting s.link).isSome)
    (fun s => endAttempt 0 true
      (onLink (fun l => { l with own := (attempting l).map (·.telegram) }) s)) s

/-- A telegram has been read through four recessive end bits: the station is outside a telegram, and
synchronised (R1). The recessive bits at its end lie inside it, so they are no part of an idle line (R1), but
the line has read recessive since the first of them, which may be an acknowledge slot or an earlier bit (R22). -/
def endField (f : LineFrame) (l : Link) : Link :=
  { l with
    insideTelegram := false, synchronised := true, own := none
    level := .recessive, dominantFor := 0, recessiveFor := 0
    tailFor := recessiveRun (completeBits f) * tBit }

/-- The link at the end of its own telegram, which it has read as it drove it, with the slots that it read. -/
def endAttempted (slots : Byte) (l : Link) : Link :=
  match attempting l with
  | some e => endField { telegramFrame e.telegram with slots } l
  | none => l

/-- ATTEMPT_END (R9, R10, R11, R19, R20): `slots` is the acknowledge field, slot k in bit k. -/
def execAttemptEnd (slots : Byte) (s : State) : Host.Outcome State Fault Refusal :=
  event (active s && (attempting s.link).isSome) (fun s =>
    let s1 := onLink (fun l => { endAttempted slots l with ackDriven := none }) s
    endAttempt slots false (if slots &&& ~~~(ownSlot s) = 0 then s1 else onLink heard s1)) s

/-! ## Reception (R7, R8, R17 to R20) -/

/-- A received STATE that carries the sleeping flag (R178). -/
def isSleepingState (t : Telegram) : Bool := t.kind == kState && (payloadByte t 0).getLsbD 1

/-- Power control at a telegram received (R178, R179). Where it returns the phase to ANNOUNCING, the settle
timer stops (notes/assumptions/49.md). -/
def powerReceived (t : Telegram) (s : State) : State :=
  let restarts := !isSleepingState t
  let back := restarts && s.power.entry == .settling
  { s with
    power :=
      { s.power with
        quiet := if restarts then 0 else s.power.quiet
        settle := if back then none else if s.power.entry = .settling then some 0 else s.power.settle
        entry := if back then .announcing else s.power.entry }
    roster := { s.roster with period := if back then some 0 else s.roster.period } }

/-- Telegrams that the receive queue held `age` microseconds ago: those it holds still, and those taken
since (R8, R17). -/
def heldAt (now age : Nat) (l : Link) : Nat :=
  (l.rx.filter fun e => decide (e.endInstant + age ≤ now)).length +
  (l.taken.filter fun x => decide (x.endInstant + age ≤ now) && decide (now < x.takenAt + age)).length

/-- The station sent this telegram itself (R8): the attempt collided, and the telegram stayed on the line. -/
def sentBySelf (f : LineFrame) (l : Link) : Bool := l.own == some (frameTelegram f)

/-- The own slot is driven, and a place reserved, where the receive queue had a free place `bits` bit times
ago (R8; notes/assumptions/10.md). A STUCK link drives nothing (R22), and a station drives no slot for a
telegram it sent itself. -/
def slotDriven (s : State) (f : LineFrame) (bits : Nat) : Bool :=
  s.link.state != .stuck && !sentBySelf f s.link && decide (heldAt s.now (bits * tBit) s.link < Config.rxCapacity) &&
    decide (s.link.rx.length < Config.rxCapacity)

/-- The link at a telegram received (R8, R17, R19, R20): the own slot was driven, and reads dominant with those
of the other nodes, and a place was reserved, if the receive queue had one at the slot. -/
def linkReceived (s : State) (f : LineFrame) (l : Link) : Link :=
  let room := slotDriven s f (slotBits (ownNumber s))
  heard
    { endField (if room then { f with slots := f.slots ||| ownSlot s } else f) l with
      ackDriven := if room then some (ownNumber s) else none
      rx := if room then l.rx ++ [{ telegram := frameTelegram f, endInstant := s.now }] else l.rx }

/-- TELEGRAM_RECEIVED (R3, R7, R8, R17): a frame with a check pass and four recessive end bits. -/
def execTelegramReceived (f : LineFrame) (s : State) : Host.Outcome State Fault Refusal :=
  event (reading s && (attempting s.link).isNone && checkPass f)
    (fun s => powerReceived (frameTelegram f) (onLink (linkReceived s f) s)) s

/-- Whether the frame can have ended so (R7, R8). -/
def abortFits : AbortCause → Bool
  | .cutShort f => cutShort f
  | .dominantEndBit f _ => !cutShort f

/-- The own slot at an abort: driven, and its place released again, only where a telegram with a check pass
fails at end bit `bit` (R7, R8). -/
def abortSlot (cause : AbortCause) (s : State) : Option (Fin 8) :=
  match cause with
  | .cutShort _ => none
  | .dominantEndBit f bit =>
    if checkPass f && slotDriven s f (slotBits (ownNumber s) - (3 - bit.val)) then some (ownNumber s) else none

/-- The line at an abort: idle after the recessive run that cut the telegram short (R7), or dominant, with the count
begun where the first end-field bit read so (R21). -/
def abortLine (cause : AbortCause) (l : Link) : Link :=
  match cause with
  | .cutShort f =>
    { l with level := .recessive, dominantFor := 0, recessiveFor := recessiveTail f * tBit, tailFor := 0 }
  | .dominantEndBit _ bit =>
    { l with level := .dominant, dominantFor := if bit = 0 then tBit else 0, recessiveFor := 0, tailFor := 0 }

/-- ABORT (R1, R7, R8): discarded, not synchronised. -/
def execAbort (cause : AbortCause) (s : State) : Host.Outcome State Fault Refusal :=
  event (reading s && (attempting s.link).isNone && abortFits cause)
    (fun s => onLink (fun l =>
      { abortLine cause l with
        insideTelegram := false, synchronised := false, own := none, ackDriven := abortSlot cause s }) s) s

/-- PLAIN_CHECK_ERROR (R1, R7): discarded without acknowledge; the acknowledge and end fields have been
read. -/
def execPlainCheckError (f : LineFrame) (s : State) : Host.Outcome State Fault Refusal :=
  event (reading s && (attempting s.link).isNone && !checkPass f && !cutShort f)
    (onLink fun l => { endField f l with ackDriven := none }) s

/-! ## Link states (R19 to R23) -/

/-- ISOLATION_TIMEOUT (R20). -/
def execIsolationTimeout (s : State) : Host.Outcome State Fault Refusal :=
  event (reading s && s.link.state == .joined)
    (fun s => capture .busIsolated 0 0 0 (onLink (fun l => { l with state := .isolated }) s)) s

/-- A queued entry is DROPPED (R22): its block's response (R65, R155, R156, R179). -/
def dropEntry (s : State) (e : TxEntry) : State :=
  if e.telegram.kind = kState then stateOutcome false (stateAttemptEnded s)
  else if e.telegram.kind = kSearch then searchOutcome e.telegram false s
  else
    match centralSequence e.telegram with
    | some q => requestOutcome q false s
    | none => s

/-- Entry to STUCK (R21, R22). -/
def enterStuck (s : State) : State :=
  let s1 :=
    onLink (fun l =>
      { l with
        state := .stuck, insideTelegram := false, tx := [], ackDriven := none, own := none
        recessiveFor := 0, tailFor := 0 }) s
  capture .busStuck 0 0 0 (s.link.tx.foldl dropEntry s1)

/-- The dominant count, outside a telegram, has reached 1 ms (R21). -/
def lineStuck (l : Link) : Bool :=
  l.state != .stuck && !l.insideTelegram && l.level == .dominant && decide (tStuck ≤ l.dominantFor)

/-- The line has read recessive for 10 ms in STUCK, the recessive bits at the end of a telegram before it
included (R22). -/
def lineFree (l : Link) : Bool :=
  l.state == .stuck && !l.insideTelegram && l.level == .recessive && decide (tStuckRelease ≤ l.tailFor + l.recessiveFor)

/-- LINE_STUCK (R21, R22). -/
def execLineStuck (s : State) : Host.Outcome State Fault Refusal :=
  event (reading s && lineStuck s.link) enterStuck s

/-- STUCK_RELEASE (R1, R22). -/
def execStuckRelease (s : State) : Host.Outcome State Fault Refusal :=
  event (reading s && lineFree s.link)
    (onLink fun l => { l with state := .joining, synchronised := false }) s

/-- BUS_WAKE_EDGE (R23, R180). -/
def execBusWakeEdge (s : State) : Host.Outcome State Fault Refusal :=
  event (operating s && s.power.asleep) wake s

end Sys2Proof.Machine
end

