-- ==== Sys2Proof/Machine/PowerControl.lean ====
section
/-! DEFINITION. Power-on and brown-out (R24 to R27, R177), the supply monitor (R176), sleep entry and wake
(R178 to R180), and the meanings of their rows. -/

namespace Sys2Proof.Machine

/-! ## Loading (R183) -/

/-- A window record lies within its ranges (R183). A POSITIONED record without P_top does not: the model's
choice (notes/assumptions/47.md). -/
def windowRecordInRange (w : WindowRecord) : Bool :=
  (match w.knowledge, w.pTop with
    | .positioned, some t => decide (400 ≤ t) && decide (t ≤ 4000) && decide (w.restPosition ≤ t)
    | .positioned, none => false
    | _, some t => decide (400 ≤ t) && decide (t ≤ 4000)
    | _, none => true) &&
  decide (w.restPosition ≤ 4095) &&
  w.profile.toArray.toList.all fun x =>
    decide (1 ≤ x.n) && decide (x.n ≤ 65535) && decide (x.learn ≤ 15)

/-- The option set as loaded (R183). -/
def loadOptions (st : Store) : OptionSet :=
  if st.optionsCheck == recordCheck (.optionSet st.options) && optionSetInRange st.options then st.options
  else OptionSet.defaults

/-- The window record as loaded (R183): a record with the moving marker keeps P_top and the sectors. That the
rest position in RAM is then 0, and the marker stays set, is the model's choice (notes/assumptions/48.md). -/
def loadWindow (st : Store) : WindowRecord :=
  if st.windowCheck == recordCheck (.windowRecord st.window) && windowRecordInRange st.window then
    if st.window.movingMarker then
      { st.window with knowledge := .unpositioned, restPosition := 0 }
    else st.window
  else WindowRecord.defaults

/-- A fob entry as loaded (R168, R183). -/
def loadFob (st : Store) (f : Fin 4) : Fob :=
  let e := st.fobs[f]
  let r := if st.fobsCheck[f] == recordCheck (.fobEntry f e) then e else FobRecord.defaults
  { enrolled := r.enrolled, key := r.key, counter := r.counter, lastTag := none, candidate := none }

/-! ## Power-on (R24 to R27, R44, R60, R82, R95) -/

/-- The debounced inputs at power-on. -/
def bootPins (i : PowerOnInputs) : Pins :=
  { doorOpen := i.doorOpen, handlePulled := i.handlePulled, ownSwitch := i.ownSwitch
    centralLock := i.centralLock, centralUnlock := i.centralUnlock, keyLock := i.keyLock
    keyUnlock := i.keyUnlock, childButton := i.childButton, packSwitch := i.packSwitch
    wakeDebounce := none }

/-- The latch record at power-on, before step 4 of R44. -/
def bootLatch (o : LatchPos) : Latch :=
  { State.reset.latch with
    observed := o
    target := match o with
      | .unlocked => .unlocked | .locked => .locked | .deadlocked => .deadlocked | .unknown => .unlocked }

/-- Step 4 of R44: DEADLOCKED with the door open becomes a write of UNLOCKED; in CONFIG_FAULT no drive
starts. -/
def bootDoor (s : State) : State :=
  if s.pins.doorOpen && s.latch.observed == .deadlocked then
    if configFault s then { s with latch := { s.latch with target := .unlocked } }
    else writeTarget .unlocked s
  else s

/-- Window drive and the pinch monitor at power-on (R95, R116). A moving marker stays set until a rest
position is recorded (R183; notes/assumptions/48.md). -/
def bootWindow (w : WindowRecord) : Window :=
  { State.reset.window with
    knowledge := w.knowledge, pTop := w.pTop
    p := if w.knowledge = .unpositioned then 0 else w.restPosition
    restPosition := w.restPosition, movingMarker := w.movingMarker }

/-- Every block at its power-on values with a link that has placed nothing: the waiting commands and the
stored records are kept (R24, R26 steps 1 to 4). -/
def bootBlocks (i : PowerOnInputs) (pending : List Instr) (st : Store) : State :=
  let o := loadOptions st
  let w := loadWindow st
  { State.reset with
    pending
    straps := i.straps
    pins := bootPins i
    link := { State.reset.link with tx := [] }
    roster := { State.reset.roster with lastPlaced := none, period := none }
    latch := bootLatch (positionOf i.latchA i.latchB)
    child := { position := (i.straps.position == 2 || i.straps.position == 3) && i.childSwitch,
               pulse := none, request := none }
    crash := { State.reset.crash with line := if i.crashLine then .active 0 else .inactive }
    window := bootWindow w
    pinch := { State.reset.pinch with profile := w.profile }
    fobs := #v[loadFob st 0, loadFob st 1, loadFob st 2, loadFob st 3]
    supply := { State.reset.supply with value := supplyTenths i.supplyMillivolt }
    settings :=
      { options := o, optionImage := o, writes := [], write := none, awaited := none, store := st } }

/-- CONFIG_FAULT is entered (R27): the CONFIG capture at time 0, no FAULT. -/
def enterConfigFault (s : State) : State :=
  { s with faults :=
      { record := some
          { kind := .config, d0 := BitVec.ofNat 8 s.straps.position.val
            d1 := match s.straps.body with | .fiveDoor => 0 | .threeDoor => 1
            d2 := 0, time := 0, more := 0 }
        summary := faultFlag .config } }

/-- The station starts (R26, R27). A write in progress was cut off (R177). -/
def start (i : PowerOnInputs) (s : State) : State :=
  let s1 := bootDoor (bootBlocks i s.pending (tornStore s))
  if configFault s1 then enterConfigFault s1 else placeState s1

/-- POWER_ON (R24 to R27, R44, R60, R82, R95, R116, R144, R153, R168, R183). -/
def execPowerOn (i : PowerOnInputs) (s : State) : Host.Outcome State Fault Refusal :=
  goOn (conclude (start i s))

/-! ## Brown-out (R177) -/

/-- SUPPLY_COMPARATOR_CHANGE (R177): below 5.0 V the brown-out timer runs. A station held in reset stays so
until its POWER_ON. -/
def execSupplyComparatorChange (below : Bool) (s : State) : Host.Outcome State Fault Refusal :=
  goOn
    { s with supply :=
        { s.supply with
          below
          brownOutTimer :=
            if below && running s then some (s.supply.brownOutTimer.getD 0) else none } }

/-- The inputs of a station whose levels nobody reads: the straps as sampled, every contact open. -/
def noInputs (t : Straps) : PowerOnInputs :=
  { straps := t, latchA := false, latchB := false, doorOpen := false, handlePulled := false
    childSwitch := false, ownSwitch := .neutral, centralLock := false, centralUnlock := false
    keyLock := false, keyUnlock := false, childButton := false
    packSwitch := Vector.replicate 4 .neutral, crashLine := false, supplyMillivolt := 0 }

/-- The station is held in reset (R177): everything but the stored records is lost, every output is off,
and a write in progress leaves its record torn. -/
def holdInReset (s : State) : State :=
  let s1 := bootBlocks (noInputs s.straps) s.pending (tornStore s)
  { s1 with
    supply :=
      { value := 0, discard := false, sampleTimer := none, below := true, brownOutTimer := none
        heldInReset := true }
    link := { s1.link with isolation := none } }

/-- BROWN_OUT (R177): the supply has stayed below 5.0 V for 10 ms. -/
def execBrownOut (s : State) : Host.Outcome State Fault Refusal :=
  event (running s && s.supply.below) holdInReset s

/-! ## Supply samples (R176) -/

/-- A kept sample is handed to latch drive and window drive (R50, R53, R108). -/
def keepSample (v : Nat) (s : State) : State :=
  let s1 : State := { s with supply := { s.supply with value := v } }
  if operating s1 then
    { s1 with
      latch := latchSupply (latchSupplyOk s1) s1.latch
      window := if hasWindow s1 then windowSupply v s1.window else s1.window }
  else s1

/-- A sample (R176). -/
def takeSample (v : Nat) (s : State) : State :=
  let s1 : State := { s with supply := { s.supply with sampleTimer := some 0 } }
  if s.supply.discard then { s1 with supply := { s1.supply with discard := false } }
  else keepSample v s1

/-- SUPPLY_SAMPLE (R176): while AWAKE, in CONFIG_FAULT as at any other time. -/
def execSupplySample (millivolt : Nat) (s : State) : Host.Outcome State Fault Refusal :=
  event (reading s) (takeSample (supplyTenths millivolt)) s

/-! ## Sleep entry and wake (R179, R180) -/

/-- QUIET_TIMER_EXPIRY (R178, R179). -/
def execQuietTimerExpiry (s : State) : Host.Outcome State Fault Refusal :=
  event (active s && s.power.entry == .announcing)
    (fun s => trySettle { s with power := { s.power with quiet := tQuiet } }) s

/-- The station enters SLEEP (R180, R20, R176). The settle timer stops with the entry phase
(notes/assumptions/49.md). -/
def enterSleep (s : State) : State :=
  { s with
    power := { s.power with asleep := true, entry := .none, settle := none }
    supply := { s.supply with sampleTimer := none }
    link := { s.link with isolation := none }
    roster := { s.roster with period := none } }

/-- SETTLE_EXPIRY (R179, R180): with the transmit queue empty, and no telegram that waits for the dispatcher
(R178; notes/assumptions/51.md). -/
def execSettleExpiry (s : State) : Host.Outcome State Fault Refusal :=
  event (active s && s.power.entry == .settling && s.link.tx.isEmpty && s.link.rx.isEmpty)
    enterSleep s

/-- Whether the station has this switch input (R25, section 6.1, R82). -/
def hasInput (i : SwitchInput) (s : State) : Bool :=
  match i with
  | .latchSwitch | .doorAjar | .insideHandle => true
  | .childSwitch => isRear s
  | .ownWindowSwitch => !isTailgate s
  | .packContact => isDriverStation s

/-- SWITCH_INPUT_WAKE (R180): the debounce of the input runs from the wake. -/
def execSwitchInputWake (input : SwitchInput) (s : State) : Host.Outcome State Fault Refusal :=
  event (operating s && s.power.asleep && hasInput input s) (fun s =>
    let s1 := wake s
    { s1 with pins := { s1.pins with wakeDebounce := some (input, 0) } }) s

end Sys2Proof.Machine
end

