-- ==== Sys2Proof/Machine/IdleStep.lean ====
section
/-! DEFINITION. What the station does when no command waits: the dispatcher takes the oldest telegram, the
settings store starts the oldest write, and otherwise one tick passes and the timer events that are due
are queued in the table's order (notes/assumptions/5.md). -/

namespace Sys2Proof.Machine

/-- One event, if it is due. -/
def dueIf (c : Bool) (i : Instr) : List Instr := if c then [i] else []

/-- A timer that counts up has reached its limit. -/
def reached (limit : Nat) : Option Nat → Bool
  | some t => decide (limit ≤ t)
  | none => false

/-- A timer that holds what remains has run out. -/
def ranOut : Option Nat → Bool
  | some t => t == 0
  | none => false

/-- A filter entry's life has run out. -/
def lifeRanOut : Option FilterEntry → Bool
  | some e => e.life == 0
  | none => false

/-- Due at any running station (R20 to R22, R177). -/
def dueBase (s : State) : List Instr :=
  dueIf (reached tBrownOut s.supply.brownOutTimer) .brownOut ++
  dueIf (reading s && s.link.state == .joined && reached tIsolation s.link.isolation) .isolationTimeout ++
  dueIf (reading s && lineStuck s.link) .lineStuck ++
  dueIf (reading s && lineFree s.link) .stuckRelease

/-- Due at the roster (R31, R34, R38, R40, R41). -/
def dueRoster (s : State) : List Instr :=
  ((List.finRange 8).flatMap fun n =>
    dueIf ((peer s n).presence == .present && decide (tLost ≤ (peer s n).age)) (.peerLost n)) ++
  dueIf (reached tStatePeriod s.roster.period) .statePeriodExpiry ++
  dueIf (ranOut s.vehicle.hold) .vehicleHoldExpiry ++
  dueIf (ranOut s.vehicle.afterRun) .afterRunExpiry ++
  ((List.finRange 8).flatMap fun n =>
    dueIf (lifeRanOut (peer s n).lockreqFilter) (.filterLifeExpiry n .lockreq) ++
    dueIf (lifeRanOut (peer s n).windowreqFilter) (.filterLifeExpiry n .windowreq))

/-- Due at latch drive (R48 to R55, R59). -/
def dueLatch (l : Latch) : List Instr :=
  let late := decide (tLatchOver ≤ l.overTime)
  dueIf (l.phase == .overtravel && decide (tOvertravel ≤ l.phaseTimer)) .overtravelEnd ++
  dueIf (l.phase == .overtravel && l.resume == .drive && late) .overtravelCurrentStop ++
  dueIf (l.phase == .brake && decide (tLatchBrake ≤ l.phaseTimer)) .latchBrakeEnd ++
  dueIf (l.phase == .drive && decide (tPulseLimit ≤ l.pulseElapsed)) .latchPulseLimit ++
  dueIf (l.phase == .pause && decide (tPause ≤ l.phaseTimer)) .latchPauseEnd ++
  dueIf (reached tSupplyWait l.supplyWait) .latchSupplyWaitExpiry ++
  dueIf (l.phase == .drive && late) .latchOvercurrent ++
  dueIf (latchChopped l && l.chopBegun && l.chopOn && decide (tChopDeglitch ≤ l.chopAbove)) .regulateChopOff ++
  dueIf (l.phase == .regulate && decide (tRegLimit l.regLimit ≤ l.regElapsed)) .regulationLimit ++
  dueIf ((l.phase == .drive || l.phase == .regulate) && reached tOpenLoad l.openLoad) .latchOpenLoad

/-- Due at lock logic, the release record, the child unit and crash response. -/
def dueBody (s : State) : List Instr :=
  dueIf (ranOut s.lock.deadlockWindow) .deadlockWindowExpiry ++
  dueIf (ranOut s.lock.relock) .relockExpiry ++
  dueIf (ranOut s.lock.secondTurn) .secondTurnExpiry ++
  dueIf (reached tRelease s.release.pulse) .releasePulseEnd ++
  dueIf (reached tChildPulse (s.child.pulse.map (·.elapsed))) .childPulseEnd ++
  dueIf (s.crash.due || lineQualified s.crash.line) .crashLineQualified

/-- The row of a timer's expiry. -/
def timerRow : WindowTimer → Instr
  | .heat => .thermalHeatTick
  | .stall => .windowStall
  | .coast => .coastEnd
  | .lease => .packLeaseExpiry
  | .globalLease => .globalLeaseExpiry
  | .spentHold => .spentHoldExpiry
  | .globalSpent => .globalSpentHoldExpiry
  | .brake => .windowBrakeEnd
  | .ramp => .rampStep
  | .excursion => .supplyExcursion
  | .overcurrent => .windowOvercurrent
  | .openLoad => .windowOpenLoad
  | .cool => .thermalCoolTick
  | .counterReset => .reversalCounterReset

/-- Due at the timers of window drive. -/
def dueWindow (s : State) : List Instr :=
  (windowTimers.filter fun x => untilTimer s x == some 0).map timerRow

/-- Due at the refresh timers of the pack switches (R102). -/
def duePack (s : State) : List Instr :=
  (List.finRange 4).flatMap fun k =>
    dueIf (reached tPackRefresh s.pack.refresh[k]) (.packRefreshExpiry k)

/-- Due at the search unit while AWAKE (R155, R159, R162). -/
def dueSearch (s : State) : List Instr :=
  let age := s.now - s.search.t0.getD s.now
  let flying := s.search.phase == .inFlight
  dueIf (match s.search.wakeWait with
    | .first t => decide (tWakeWait ≤ t)
    | .second t => decide (tWakeWait ≤ t)
    | .stopped | .awaitState => false) .wakeWaitEnd ++
  ((List.finRange 6).flatMap fun k =>
    dueIf (flying && ownsSlot s k && decide (s.search.nextSlot ≤ k.val) && decide (tSlotStart k ≤ age))
      (.slotStart k)) ++
  dueIf (flying && decide (tInFlight ≤ age)) .collectingStart ++
  dueIf (s.search.phase == .collecting && decide (tCollect ≤ age)) .collectionEnd

/-- Due at power control while AWAKE, and the chop (R55, R179). -/
def duePower (s : State) : List Instr :=
  dueIf (s.power.entry == .announcing && s.power.flagSent && decide (tQuiet ≤ s.power.quiet))
    .quietTimerExpiry ++
  dueIf (s.power.entry == .settling && reached tSettle s.power.settle && s.link.tx.isEmpty &&
      s.link.rx.isEmpty)
    .settleExpiry ++
  dueIf (latchChopped s.latch && decide (tChopPeriod ≤ s.latch.chopTimer)) .chopPeriodStart

/-- Due AWAKE and in SLEEP, with valid straps (R142, R143, R148, R166). A measurement that
reaches 5 ms ends before a scan period that starts with it. -/
def dueAlways (s : State) : List Instr :=
  dueIf (s.rf.phase != .idle && decide (tRfGap ≤ s.rf.gap)) .rfGapTimeout ++
  dueIf (s.touch.measuring.isSome && decide (tMeasure ≤ s.touch.measureElapsed))
    (.measurementEnd tMeasure) ++
  dueIf (decide (s.touch.scanLength ≤ s.touch.scanElapsed)) .scanPeriodStart ++
  ((List.finRange 3).flatMap fun e =>
    dueIf (!s.touch.paused && measured s e && (s.touch.electrodes[e]).touched &&
      reached tTouchStuck (s.touch.electrodes[e]).touchTime) (.touchStuckExpiry e))

/-- The timer events that are due. -/
def dueEvents (s : State) : List Instr :=
  if !running s then []
  else
    dueBase s ++
    (if !operating s then []
     else
      dueAlways s ++ dueWindow s ++
      (if s.power.asleep then []
       else
        dueRoster s ++ dueLatch s.latch ++ dueBody s ++ (if hasWindow s then duePack s else []) ++
          dueSearch s ++ duePower s))

/-- The dispatcher takes telegrams while the station is AWAKE. -/
def dispatchDue (s : State) : Option Instr :=
  if reading s then (headMessage s).map fun m => takingOf m.1 else none

/-- A write may start (R184). -/
def writeDue (s : State) : Bool :=
  operating s && s.settings.write.isNone && !s.settings.writes.isEmpty

/-- Time passes, and the events that come due are queued. -/
def tickStep (s : State) : State :=
  let s1 := elapse Config.tick s
  { s1 with pending := s1.pending ++ dueEvents s1 }

/-- The step on an empty queue. -/
def idleStep (s : State) : State :=
  match dispatchDue s with
  | some i => { s with pending := s.pending ++ [i] }
  | none => if writeDue s then { s with pending := s.pending ++ [.nvmWriteStart] } else tickStep s

end Sys2Proof.Machine
end

