-- ==== Sys2Proof/Machine/Dispatch.lean ====
section
/-! DEFINITION. One arm per command: each calls its meaning. -/

namespace Sys2Proof.Machine

def exec (i : Instr) (s : State) : Host.Outcome State Fault Refusal :=
  match i with
  | .powerOn inputs => Sys2Proof.Machine.execPowerOn inputs s
  | .supplyComparatorChange below => Sys2Proof.Machine.execSupplyComparatorChange below s
  | .brownOut => Sys2Proof.Machine.execBrownOut s
  | .supplySample millivolt => Sys2Proof.Machine.execSupplySample millivolt s
  | .attemptStart recessiveBits => Sys2Proof.Machine.execAttemptStart recessiveBits s
  | .arbitrationLoss => Sys2Proof.Machine.execArbitrationLoss s
  | .collision => Sys2Proof.Machine.execCollision s
  | .attemptEnd slots => Sys2Proof.Machine.execAttemptEnd slots s
  | .telegramReceived f => Sys2Proof.Machine.execTelegramReceived f s
  | .abort cause => Sys2Proof.Machine.execAbort cause s
  | .isolationTimeout => Sys2Proof.Machine.execIsolationTimeout s
  | .lineStuck => Sys2Proof.Machine.execLineStuck s
  | .stuckRelease => Sys2Proof.Machine.execStuckRelease s
  | .busWakeEdge => Sys2Proof.Machine.execBusWakeEdge s
  | .dispatchDiscard => Sys2Proof.Machine.execDispatchDiscard s
  | .stateTaken => Sys2Proof.Machine.execStateTaken s
  | .vehicleTaken => Sys2Proof.Machine.execVehicleTaken s
  | .faultTaken => Sys2Proof.Machine.execFaultTaken s
  | .serviceackTaken => Sys2Proof.Machine.execServiceackTaken s
  | .lockreqLock => Sys2Proof.Machine.execLockreqLock s
  | .lockreqDeadlock => Sys2Proof.Machine.execLockreqDeadlock s
  | .lockreqUnlock => Sys2Proof.Machine.execLockreqUnlock s
  | .lockreqChildOn => Sys2Proof.Machine.execLockreqChildOn s
  | .lockreqChildOff => Sys2Proof.Machine.execLockreqChildOff s
  | .windowreqManualUp => Sys2Proof.Machine.execWindowreqManualUp s
  | .windowreqManualDown => Sys2Proof.Machine.execWindowreqManualDown s
  | .windowreqAutoUp => Sys2Proof.Machine.execWindowreqAutoUp s
  | .windowreqAutoDown => Sys2Proof.Machine.execWindowreqAutoDown s
  | .windowreqStop => Sys2Proof.Machine.execWindowreqStop s
  | .pinchTaken => Sys2Proof.Machine.execPinchTaken s
  | .searchTaken => Sys2Proof.Machine.execSearchTaken s
  | .crashTaken => Sys2Proof.Machine.execCrashTaken s
  | .serviceEnrol => Sys2Proof.Machine.execServiceEnrol s
  | .serviceOption => Sys2Proof.Machine.execServiceOption s
  | .serviceClearfault => Sys2Proof.Machine.execServiceClearfault s
  | .serviceForgetWindow => Sys2Proof.Machine.execServiceForgetWindow s
  | .fobLock => Sys2Proof.Machine.execFobLock s
  | .fobUnlock => Sys2Proof.Machine.execFobUnlock s
  | .fobTailgate => Sys2Proof.Machine.execFobTailgate s
  | .fobCloseAll => Sys2Proof.Machine.execFobCloseAll s
  | .fobOpenAll => Sys2Proof.Machine.execFobOpenAll s
  | .fobSearchReply => Sys2Proof.Machine.execFobSearchReply s
  | .rfByte value framingError => Sys2Proof.Machine.execRfByte value framingError s
  | .rfGapTimeout => Sys2Proof.Machine.execRfGapTimeout s
  | .peerLost node => Sys2Proof.Machine.execPeerLost node s
  | .statePeriodExpiry => Sys2Proof.Machine.execStatePeriodExpiry s
  | .vehicleHoldExpiry => Sys2Proof.Machine.execVehicleHoldExpiry s
  | .afterRunExpiry => Sys2Proof.Machine.execAfterRunExpiry s
  | .filterLifeExpiry node kind => Sys2Proof.Machine.execFilterLifeExpiry node kind s
  | .latchSwitchChange a b => Sys2Proof.Machine.execLatchSwitchChange a b s
  | .overtravelEnd => Sys2Proof.Machine.execOvertravelEnd s
  | .overtravelCurrentStop => Sys2Proof.Machine.execOvertravelCurrentStop s
  | .latchBrakeEnd => Sys2Proof.Machine.execLatchBrakeEnd s
  | .latchPulseLimit => Sys2Proof.Machine.execLatchPulseLimit s
  | .latchPauseEnd => Sys2Proof.Machine.execLatchPauseEnd s
  | .latchSupplyWaitExpiry => Sys2Proof.Machine.execLatchSupplyWaitExpiry s
  | .latchOvercurrent => Sys2Proof.Machine.execLatchOvercurrent s
  | .regulateChopOff => Sys2Proof.Machine.execRegulateChopOff s
  | .regulationLimit => Sys2Proof.Machine.execRegulationLimit s
  | .latchOpenLoad => Sys2Proof.Machine.execLatchOpenLoad s
  | .doorAjarChange isOpen => Sys2Proof.Machine.execDoorAjarChange isOpen s
  | .deadlockWindowExpiry => Sys2Proof.Machine.execDeadlockWindowExpiry s
  | .relockExpiry => Sys2Proof.Machine.execRelockExpiry s
  | .insideHandlePull pulled => Sys2Proof.Machine.execInsideHandlePull pulled s
  | .centralLockButton closed => Sys2Proof.Machine.execCentralLockButton closed s
  | .centralUnlockButton closed => Sys2Proof.Machine.execCentralUnlockButton closed s
  | .keyLockTurn closed => Sys2Proof.Machine.execKeyLockTurn closed s
  | .keyUnlockTurn closed => Sys2Proof.Machine.execKeyUnlockTurn closed s
  | .secondTurnExpiry => Sys2Proof.Machine.execSecondTurnExpiry s
  | .releasePulseEnd => Sys2Proof.Machine.execReleasePulseEnd s
  | .childSwitchChange closed => Sys2Proof.Machine.execChildSwitchChange closed s
  | .childPulseEnd => Sys2Proof.Machine.execChildPulseEnd s
  | .childButtonPress closed => Sys2Proof.Machine.execChildButtonPress closed s
  | .crashLineActive => Sys2Proof.Machine.execCrashLineActive s
  | .crashLineInactive => Sys2Proof.Machine.execCrashLineInactive s
  | .crashLineQualified => Sys2Proof.Machine.execCrashLineQualified s
  | .hallStep sinceLast => Sys2Proof.Machine.execHallStep sinceLast s
  | .windowStall => Sys2Proof.Machine.execWindowStall s
  | .coastEnd => Sys2Proof.Machine.execCoastEnd s
  | .windowSwitchChange pos => Sys2Proof.Machine.execWindowSwitchChange pos s
  | .packWindowSwitchChange station pos => Sys2Proof.Machine.execPackWindowSwitchChange station pos s
  | .packRefreshExpiry station => Sys2Proof.Machine.execPackRefreshExpiry station s
  | .packLeaseExpiry => Sys2Proof.Machine.execPackLeaseExpiry s
  | .spentHoldExpiry => Sys2Proof.Machine.execSpentHoldExpiry s
  | .windowBrakeEnd => Sys2Proof.Machine.execWindowBrakeEnd s
  | .rampStep => Sys2Proof.Machine.execRampStep s
  | .supplyExcursion => Sys2Proof.Machine.execSupplyExcursion s
  | .windowOvercurrent => Sys2Proof.Machine.execWindowOvercurrent s
  | .windowOpenLoad => Sys2Proof.Machine.execWindowOpenLoad s
  | .thermalHeatTick => Sys2Proof.Machine.execThermalHeatTick s
  | .thermalCoolTick => Sys2Proof.Machine.execThermalCoolTick s
  | .reversalCounterReset => Sys2Proof.Machine.execReversalCounterReset s
  | .globalLeaseExpiry => Sys2Proof.Machine.execGlobalLeaseExpiry s
  | .globalSpentHoldExpiry => Sys2Proof.Machine.execGlobalSpentHoldExpiry s
  | .scanPeriodStart => Sys2Proof.Machine.execScanPeriodStart s
  | .measurementEnd cycles => Sys2Proof.Machine.execMeasurementEnd cycles s
  | .touchStuckExpiry electrode => Sys2Proof.Machine.execTouchStuckExpiry electrode s
  | .wakeWaitEnd => Sys2Proof.Machine.execWakeWaitEnd s
  | .slotStart slot => Sys2Proof.Machine.execSlotStart slot s
  | .slotEnd currentReached => Sys2Proof.Machine.execSlotEnd currentReached s
  | .collectingStart => Sys2Proof.Machine.execCollectingStart s
  | .collectionEnd => Sys2Proof.Machine.execCollectionEnd s
  | .quietTimerExpiry => Sys2Proof.Machine.execQuietTimerExpiry s
  | .settleExpiry => Sys2Proof.Machine.execSettleExpiry s
  | .nvmWriteStart => Sys2Proof.Machine.execNvmWriteStart s
  | .nvmWriteEnd readBackMatches => Sys2Proof.Machine.execNvmWriteEnd readBackMatches s
  | .plainCheckError f => Sys2Proof.Machine.execPlainCheckError f s
  | .switchInputWake input => Sys2Proof.Machine.execSwitchInputWake input s
  | .motorCurrentChange motor band => Sys2Proof.Machine.execMotorCurrentChange motor band s
  | .chopPeriodStart => Sys2Proof.Machine.execChopPeriodStart s

end Sys2Proof.Machine
end

