-- ==== Sys2Proof/Safety.lean ====
section
/-! DEFINITION. What a safe station is, in the terms that statements use: the laws of the latch, of the
window, of the queues, of the reported state and of the fob counters. Every step keeps each of them. -/

namespace Sys2Proof.Safety

open Sys2Proof.Machine

/-- The latch laws: an own door that is reported open forbids the target DEADLOCKED (R58), crash hold
fixes the target at UNLOCKED (section 5.7), and what these two need of the latch record. -/
structure LatchLaw (s : State) : Prop where
  door : s.pins.doorOpen = true → s.latch.target ≠ .deadlocked
  hold : s.crash.hold = true → s.latch.target = .unlocked
  pursuit : s.latch.crashPursuit = true → s.latch.target = .unlocked
  resting : s.latch.phase = .idle → s.latch.supplyWait = none → s.latch.observed = .unlocked →
    s.latch.target = .unlocked
  reached : s.latch.phase = .overtravel → s.latch.observed = targetPos s.latch.target

/-- The window laws: in crash hold nothing moves up (section 5.7), a POSITIONED window lies in its learned
travel (R96), H lies within 0 to 1000 (R113), and a run has the direction of its move. -/
structure WindowLaw (s : State) : Prop where
  run : ∀ r, s.window.run = some r →
    s.window.bridge = .drive ∧ ∃ m, s.window.move = some m ∧ m.dir = r.dir
  hold : s.crash.hold = true → ∀ m, s.window.move = some m → m.dir = .down
  travel : s.window.knowledge = .positioned →
    ∃ t, s.window.pTop = some t ∧ 400 ≤ t ∧ t ≤ 4000 ∧ s.window.p ≤ t
  heat : s.window.heat ≤ 1000

/-- The transmit queue's entries in order of kind (R12). -/
def sortedByKind (l : List TxEntry) : Prop :=
  l.Pairwise fun a b => a.telegram.kind ≤ b.telegram.kind

/-- The number of STATE entries in a transmit queue (R12). -/
def stateEntries (l : List TxEntry) : Nat := (l.filter fun e => e.telegram.kind == kState).length

/-- The queue laws (R12, R13, R14, R17). -/
structure QueueLaw (s : State) : Prop where
  capacity : s.link.tx.length ≤ 6
  order : sortedByKind s.link.tx
  oneState : stateEntries s.link.tx ≤ 1
  waiting : ∀ e ∈ s.link.tx, ∀ t, e.waiting = some t → t.kind = e.telegram.kind
  received : s.link.rx.length ≤ 4

/-- The reporting law (R34): while the station acts, its last placed STATE carries the present value of
every reported field. -/
def ReportLaw (s : State) : Prop := active s = true → fieldsChanged s = false

/-- The fob law: a resync candidate stands ahead of the last accepted counter (R170). -/
def FobLaw (s : State) : Prop :=
  ∀ (f : Fin 4) (k : BitVec 24), (s.fobs[f]).candidate = some k → (s.fobs[f]).counter.toNat < k.toNat

end Sys2Proof.Safety
end

