-- ==== Sys2Proof/Certificates/Slice0/Obligations.lean ====
section
/-! DEFINITION. The statements about the station. A statement about a command says which state its event
leaves before the ending that every event has: changed STATE fields are reported and readiness is judged
(`conclude`, whose own frame `Obligations.ConcludeFrame` states). Every state is written out as the state
before with the fields that change, so each statement is also the frame of its command. Times are in
microseconds. -/

open Sys2Proof Sys2Proof.Machine Sys2Proof.Safety

namespace Sys2Proof.Claims

/-! Words that several statements share. -/

/-- The commands that act at a station whose straps are invalid (R27). -/
def actsWithInvalidStraps : Instr → Bool
  | .powerOn _ | .supplyComparatorChange _ | .brownOut | .supplySample _ | .telegramReceived _
  | .abort _ | .plainCheckError _ | .attemptStart _ | .isolationTimeout | .lineStuck | .stuckRelease
  | .dispatchDiscard | .childSwitchChange _ => true
  | _ => false

/-- No attempt is in progress. -/
def noAttempt (s : State) : Prop := ∀ e ∈ s.link.tx, e.inAttempt = false

/-- The transmit queue holds the entry `e` in an attempt, between `pre` and `post`. -/
def attemptAt (s : State) (pre post : List TxEntry) (e : TxEntry) : Prop :=
  s.link.tx = pre ++ e :: post ∧ e.inAttempt = true ∧ ∀ x ∈ pre ++ post, x.inAttempt = false

/-- A telegram as a fresh entry of the transmit queue (R12, R13). -/
def fresh (t : Telegram) : TxEntry :=
  { telegram := t, attempts := 0, missing := 0, inAttempt := false, waiting := none }

/-- A placed telegram takes over a queued entry (R13, R14): a STATE a STATE, a hold-to-run WINDOWREQ one
of the same action and target set. -/
def takesOver (t : Telegram) (e : TxEntry) : Prop :=
  (t.kind = 8 ∧ e.telegram.kind = 8) ∨
  (t.kind = 4 ∧ e.telegram.kind = 4 ∧ (payloadByte t 1 = 1 ∨ payloadByte t 1 = 2) ∧
    payloadByte t 0 = payloadByte e.telegram 0 ∧ payloadByte t 1 = payloadByte e.telegram 1)

/-- The entry that a placed telegram took over (R13, R14). -/
def tookOver (t : Telegram) (e : TxEntry) : TxEntry :=
  if e.inAttempt = true then { e with waiting := some t }
  else { e with telegram := t, attempts := 0, missing := 0 }

/-- The dispatcher reads the oldest telegram of the receive queue as `m`, received at `t`: with invalid straps
it discards every telegram (R18, R27). -/
def takes (s : State) (m : Message) (t : Nat) : Prop :=
  running s = true ∧ s.power.asleep = false ∧
    ∃ e rest, s.link.rx = e :: rest ∧ t = e.endInstant ∧
      m = if configFault s = true then .discarded else readTelegram s.straps.position e.telegram

/-- A search number of section 1.9: 0, or a local count of 1 to 31 in bits 0 to 4. -/
def numbered (x : Byte) : Prop := x = 0 ∨ x.toNat % 32 ≠ 0

/-- A telegram of a kind that stations send whose payload is one of section 1.9 (R18). -/
def listed (t : Telegram) : Prop :=
  (t.kind = 1 ∧ ∃ x : Byte, t.payload = [x] ∧ x ≠ 0) ∨
  (t.kind = 2 ∧ ∃ m w : Byte, t.payload = [m, w] ∧ m.toNat ≤ 3 ∧ (w.toNat ≤ 100 ∨ w = 255)) ∨
  (t.kind = 3 ∧ ∃ a c q : Byte, t.payload = [a, c, q] ∧
    (((c = 1 ∨ c = 2) ∧ 1 ≤ a.toNat ∧ a.toNat ≤ 3) ∨ (c = 4 ∧ (a = 4 ∨ a = 5)))) ∨
  (t.kind = 3 ∧ ∃ a q x : Byte, t.payload = [a, 3, q, x] ∧ 1 ≤ a.toNat ∧ a.toNat ≤ 3 ∧ numbered x) ∨
  (t.kind = 4 ∧ ∃ set a q : Byte, t.payload = [set, a, q] ∧ set.toNat < 32 ∧ 1 ≤ a.toNat ∧ a.toNat ≤ 5) ∨
  (t.kind = 5 ∧ ∃ x z set : Byte, t.payload = [x, z, set] ∧ numbered x ∧ 1 ≤ z.toNat ∧ z.toNat ≤ 3 ∧
    set.toNat < 64) ∨
  (t.kind = 6 ∧ ∃ (x b c2 c1 c0 : Byte) (rest : List Byte), t.payload = x :: b :: c2 :: c1 :: c0 :: rest ∧
    b.toNat / 16 % 4 = 0 ∧
    ((x = 0 ∧ 1 ≤ b.toNat % 16 ∧ b.toNat % 16 ≤ 5 ∧ rest.length = 4) ∨
     (x ≠ 0 ∧ numbered x ∧ b.toNat % 16 = 6 ∧ rest.length = 10))) ∨
  (t.kind = 8 ∧ ∃ c : StateContents, t.payload = encodeState c ∧ (c.percent.toNat ≤ 100 ∨ c.percent = 255) ∧
    (c.source.toNat ≤ 13 ∨ c.source = 255)) ∨
  (t.kind = 9 ∧ ∃ k d0 d1 d2 m t1 t0 : Byte, t.payload = [k, d0, d1, d2, m, t1, t0] ∧ k.toNat ≤ 15 ∧
    m.toNat ≤ 15) ∨
  (t.kind = 11 ∧ ∃ k r : Byte, t.payload = [k, r] ∧ 1 ≤ k.toNat ∧ k.toNat ≤ 4 ∧ 1 ≤ r.toNat ∧ r.toNat ≤ 4)

/-- The frame is not the dispatcher's to discard: its sender is another node that sends the kind, and its
payload one of section 1.9 (R18). -/
def handedOn (own : Fin 8) (t : Telegram) : Prop :=
  t.sender.toFin ≠ own ∧
  ((t.sender.toNat ≤ 4 ∧ listed t) ∨
   (t.sender = 6 ∧ t.kind = 7 ∧ ∃ v i : Byte, t.payload = [v, i] ∧ i.toNat ≤ 3) ∨
   (t.sender = 7 ∧ t.kind = 10 ∧ ∃ (k station : Byte) (args : List Byte),
     t.payload = k :: station :: args ∧ station.toNat ≤ 4 ∧
     ((k = 1 ∧ args.length = 8) ∨ (k = 2 ∧ args.length = 10) ∨ ((k = 3 ∨ k = 4) ∧ args.length = 0))))

/-- The oldest telegram has left the receive queue (R17). Takings of the last 240 µs are remembered: an
acknowledge slot may have come before them (R8; notes/assumptions/10.md). -/
def popped (s : State) : State :=
  { s with link :=
      { s.link with
        rx := s.link.rx.drop 1
        taken :=
          (s.link.taken ++
              (s.link.rx.take 1).map fun e => TakenEntry.mk e.endInstant s.now).filter
            fun x => decide (s.now < x.takenAt + 240) } }

/-- The recessive bits at which a frame ends at its check field. -/
def tailBits (f : LineFrame) : Nat :=
  ((coveredBits f ++ bitsMsb f.check).reverse.takeWhile id).length

/-- The telegram of a frame. -/
def telegramOf (f : LineFrame) : Telegram :=
  { kind := f.kind, sender := f.sender, payload := f.payload }

/-- The station has its slot driven for a frame with a check pass: it is not STUCK, it did not send the frame
itself, and the receive queue had a free place `bits` bit times ago, by the telegrams it holds and those taken
since, and has one now (R8, R17, R22). -/
def hadPlace (s : State) (f : LineFrame) (bits : Nat) : Bool :=
  decide (s.link.state ≠ .stuck) && decide (s.link.own ≠ some (telegramOf f)) &&
  decide (s.link.rx.length < 4) && decide (
    (s.link.rx.filter fun e => decide (e.endInstant + 20 * bits ≤ s.now)).length +
    (s.link.taken.filter fun x =>
      decide (x.endInstant + 20 * bits ≤ s.now) && decide (s.now < x.takenAt + 20 * bits)).length < 4)

/-- The recessive bits at the end of a telegram read through its end field: the four end bits, the acknowledge
slots after the last dominant one, and where no slot is dominant the last bits of the frame as well (section
1.2). -/
def endRun (f : LineFrame) : Nat :=
  if f.slots = 0 then 12 + tailBits f else 11 - Nat.log2 f.slots.toNat

/-- The link after an end field read to its end. The recessive bits at the end of the telegram lie inside it, so
that they count for R22 and not toward an idle line (R1). -/
def ended (f : LineFrame) (l : Link) : Link :=
  { l with
    insideTelegram := false, synchronised := true, own := none
    level := .recessive, dominantFor := 0, recessiveFor := 0, tailFor := 20 * endRun f }

/-- The link after a telegram received: the own slot, which began 12
bits less the own number before the end of the telegram, was driven where a place was free (R8, R17, R19, R20,
R22). -/
def linkAfter (s : State) (f : LineFrame) : Link :=
  let read (slots : Byte) : Link :=
    { ended { f with slots } s.link with
      state := if s.link.state = .stuck then .stuck else .joined
      isolation := if s.link.state = .stuck then s.link.isolation else some 0 }
  if hadPlace s f (12 - s.straps.position.val) = true then
    { read (f.slots ||| BitVec.twoPow 8 s.straps.position.val) with
      ackDriven := some s.straps.position
      rx := s.link.rx ++ [{ telegram := telegramOf f, endInstant := s.now }] }
  else { read f.slots with ackDriven := none }

/-- Power control and the STATE period after a telegram received (R178, R179). -/
def quietAfter (t : Telegram) (s : State) : State :=
  if t.kind = 8 ∧ (payloadByte t 0).getLsbD 1 = true then
    { s with power :=
        { s.power with settle := if s.power.entry = .settling then some 0 else s.power.settle } }
  else if s.power.entry = .settling then
    { s with
      power := { s.power with quiet := 0, entry := .announcing, settle := none }
      roster := { s.roster with period := some 0 } }
  else { s with power := { s.power with quiet := 0 } }

/-- A peer record in its place. -/
def setPeer (n : Fin 8) (p : Peer) (s : State) : State :=
  { s with roster := { s.roster with peers := s.roster.peers.set n.val p n.isLt } }

/-- A peer record in its place, with what the roster showed before remembered for 80 µs where the new record
is shown and the old one was not, or the other way round (R9). -/
def changed (n : Fin 8) (p : Peer) (s : State) : State :=
  let old := s.roster.peers[n]
  let s1 := setPeer n p s
  if p.presence = .present ∨ p.presence = .asleep ↔ old.presence = .present ∨ old.presence = .asleep then s1
  else
    { s1 with roster :=
        { s1.roster with
          earlier :=
            (s.roster.earlier ++ [RosterPast.mk s.now (shownNodes s)]).filter fun x =>
              decide (s.now < x.upTo + 80) } }

/-- The last crash number of a node becomes 0 (R92). -/
def forgetCrash (n : Fin 8) (s : State) : State :=
  if h : n.val < 5 then
    { s with crash := { s.crash with lastNumber := s.crash.lastNumber.set n.val 0 h } }
  else s

/-- A STATE is placed where a field of it, the window percent apart, differs from the last placed one
(R34). -/
def reported (s : State) : State :=
  if active s = true ∧
      (s.roster.lastPlaced.map fun c => { c with percent := 0 }) ≠ some { ownState s with percent := 0 } then
    placeState s
  else s

/-- The conditions 1 to 10 of R178, the receive queue apart. -/
def restful (s : State) : Prop :=
  strapsValid s.straps = true ∧
  (s.vehicle.ignition = .off ∨ (s.roster.peers[6]).presence = .lost ∨
    (s.roster.peers[6]).presence = .neverHeard) ∧
  (s.latch.phase = .idle ∨ s.latch.phase = .failed) ∧ s.latch.supplyWait = none ∧
  s.child.pulse = none ∧ s.release.pulse = none ∧
  s.window.move = none ∧ s.window.bridge = .off ∧ s.window.coast = none ∧ s.search.phase = .idle ∧
  s.rf.phase = .idle ∧ s.lock.deadlockWindow = none ∧ s.lock.relock = none ∧ s.vehicle.afterRun = none ∧
  (s.power.entry = .none → s.link.tx = []) ∧ (∀ e ∈ s.link.tx, e.telegram.kind = 8) ∧
  s.settings.writes = [] ∧ s.settings.write = none ∧ s.settings.awaited = none ∧
  s.link.state ≠ .stuck ∧
  (∀ i : Fin 3, measured s i = true → (s.touch.electrodes[i]).onCount = 0)

/-- The blocks of a station that wakes, before its wake STATE (R180). -/
def woken (s : State) : State :=
  { s with
    power :=
      { asleep := false, entry := .none, quiet := 0, settle := none, flagSent := false,
        sleepingFlag := false }
    supply := { s.supply with discard := true, sampleTimer := some 5000 }
    link :=
      { s.link with
        synchronised := false, insideTelegram := false, isolation := some 0, own := none
        level := .recessive, dominantFor := 0, recessiveFor := 0, tailFor := 0 }
    touch :=
      { s.touch with
        electrodes := vmap (fun e => { e with discard := true }) s.touch.electrodes
        scanElapsed := 0, scanLength := 10000, cutShort := true } }

/-- The search of a station is IN_FLIGHT: measurement pauses (R149, R159). -/
def paused (s : State) : State := { s with touch := { s.touch with measuring := none, paused := true } }

/-- The own SEARCH went out, now (R156, R159). -/
def flight (t : Telegram) (s : State) : State :=
  paused
    { s with search :=
      { s.search with
        awaited := false, t0 := some s.now, number := payloadByte t 0
        slots := (payloadByte t 2).setWidth 6, phase := .inFlight, driving := none, nextSlot := 0 } }

/-- The own search is abandoned (R156). -/
def abandoned (s : State) : State :=
  { s with search :=
    { s.search with
      awaited := false, phase := .idle, touchZone := none, verdicts := Vector.replicate 4 none
      lastVerdict := .notFound, wakeWait := .stopped, driving := none } }

/-- The queued STATE that a wake waits for has ended its attempt or left: the second 5 ms run (R155). -/
def waited (s : State) : State :=
  { s with search :=
    { s.search with wakeWait := if s.search.wakeWait = .awaitState then .second 0 else s.search.wakeWait } }

/-- Power control has the outcome of the STATE with the sleeping flag (R179). -/
def flagOutcome (collided : Bool) (s : State) : State :=
  if s.power.entry = .announcing ∧ s.power.flagSent = false then
    { s with power :=
      if collided = true then { s.power with entry := .none, settle := none, sleepingFlag := false }
      else { s.power with flagSent := true } }
  else s

/-- SETTLING begins at the later of 2 s of quiet and flag sent (R179). -/
def settles (s : State) : State :=
  if s.power.entry = .announcing ∧ s.power.flagSent = true ∧ 2000000 ≤ s.power.quiet then
    { s with
      power := { s.power with entry := .settling, settle := some 0 }
      roster := { s.roster with period := none } }
  else s

/-- A central action as its rule takes it (R63): a DEADLOCK by the inside button is a LOCK. -/
def request (a : CentralAction) (src : ActionSource) (cause : LockCause) (number : Byte) (own : Bool)
    (s : State) : State :=
  match a with
  | .unlock => takeUnlock src cause own s
  | .lock => takeLock src cause number own s
  | .deadlock =>
    if cause = .insideButton then takeLock src cause number own s
    else takeDeadlock src cause number own s

/-- The own LOCKREQ `t` has left by its attempts (R65): an overtaken one in flight is applied again. -/
def confirmed (t : Telegram) (s : State) : State :=
  match s.lock.inFlight with
  | none => s
  | some r =>
    if r.sequence = payloadByte t 2 then
      let s1 :=
        if r.overtaken = true then
          request r.action (.node s.straps.position r.sequence) r.cause r.search true s
        else s
      { s1 with lock := { s1.lock with inFlight := none } }
    else s

/-- What an entry that is DROPPED does at its block (R22, R65, R155, R156, R179). -/
def dropped (s : State) (e : TxEntry) : State :=
  let t := e.telegram
  if t.kind = 8 then flagOutcome false (waited s)
  else if t.kind = 5 then (if s.search.awaited = true then abandoned s else s)
  else if t.kind = 3 ∧ payloadByte t 1 ≠ 4 then
    match s.lock.inFlight with
    | none => s
    | some r => if r.sequence = payloadByte t 2 then { s with lock := { s.lock with inFlight := none } } else s
  else s

/-- A pursuit of `t` starts (R46): ordinary, or the crash pursuit of R56. -/
def pursuit (supplyOk : Bool) (t : LatchTarget) (crash : Bool) (l : Latch) : Latch :=
  let l1 : Latch :=
    { l with
      target := t, attempt := 1, pulseElapsed := 0, regElapsed := 0
      regLimit := if crash then .crash else .normal, crashPursuit := crash
      resume := if crash then .regulate else .drive
      openLoad := some 0, supplyWait := none, phaseTimer := 0, brakeForPassed := false }
  if targetPos t = l.observed then { l1 with phase := .idle, crashPursuit := false }
  else if supplyOk = true then
    { l1 with
      phase := if crash then .regulate else .drive
      direction := needDir t l.observed
      overTime := 0, chopTimer := 0, chopBegun := true, chopOn := true, chopAbove := 0 }
  else { l1 with phase := .idle, supplyWait := some 0 }

/-- A drive is entered in the resume phase, or held back with the supply wait running (R47, R50). -/
def entered (supplyOk : Bool) (d : LatchDir) (l : Latch) : Latch :=
  if supplyOk = true then
    { l with
      phase := (match l.resume with | .drive => .drive | .regulate => .regulate)
      direction := some d, supplyWait := none, phaseTimer := 0
      overTime := 0, chopTimer := 0, chopBegun := true, chopOn := true, chopAbove := 0 }
  else { l with phase := .idle, supplyWait := some 0, phaseTimer := 0 }

/-- A driving bridge is chopped from its next 2 kHz period on; one that is chopped keeps its period (R54,
R55). -/
def chopped (l : Latch) : Latch :=
  if l.phase = .regulate ∨ (l.phase = .overtravel ∧ l.resume = .regulate) then l
  else { l with overTime := 0, chopBegun := false, chopOn := true, chopAbove := 0 }

/-- The pinch monitor at the end of a run whose accumulators are not used (R117, R129). -/
def emptied (m : Pinch) : Pinch :=
  { m with
    counter := none, sectorAcc := Vector.replicate 32 ⟨0, 0⟩, binAcc := Vector.replicate 64 ⟨0, 0⟩
    holding := [] }

/-- Every fob counter is at or above what it was. -/
def countersRise (s t : State) : Prop :=
  ∀ f : Fin 4, (s.fobs[f]).counter.toNat ≤ (t.fobs[f]).counter.toNat

/-- The commands that may set a fob counter back: a start, a brown-out, and an ENROL (R168, R173, R177). -/
def setsCounters : Instr → Bool
  | .powerOn _ | .brownOut | .serviceEnrol => true
  | _ => false

/-! ### The passing of time -/

/-- A running timer after `n` µs, held at its limit. -/
def up (limit n : Nat) (t : Option Nat) : Option Nat := t.map fun t => min limit (t + n)

/-- A running timer that holds what remains, after `n` µs. -/
def down (n : Nat) (t : Option Nat) : Option Nat := t.map fun t => t - n

/-- A peer record after `n` µs (R31, R41). -/
def peerAfter (n : Nat) (p : Peer) : Peer :=
  { p with
    age := if p.presence = .neverHeard then p.age else min 65535000 (p.age + n)
    lockreqFilter := p.lockreqFilter.map fun e => { e with life := e.life - n }
    windowreqFilter := p.windowreqFilter.map fun e => { e with life := e.life - n } }

/-- The latch after `n` µs (R48 to R50, R52, R54, R55, R59). -/
def latchAfter (n : Nat) (l : Latch) : Latch :=
  let chopping := l.phase = .regulate ∨ (l.phase = .overtravel ∧ l.resume = .regulate)
  let full := l.phase = .drive ∨ (l.phase = .overtravel ∧ l.resume = .drive)
  { l with
    pulseElapsed :=
      if l.phase = .drive ∨ (l.phase = .brake ∧ l.brakeForPassed = true) then
        min 300000 (l.pulseElapsed + n)
      else l.pulseElapsed
    regElapsed :=
      if l.phase = .regulate then
        min (match l.regLimit with | .normal => 1200000 | .crash => 2000000) (l.regElapsed + n)
      else l.regElapsed
    phaseTimer :=
      if l.phase = .overtravel then min 20000 (l.phaseTimer + n)
      else if l.phase = .brake then min 50000 (l.phaseTimer + n)
      else if l.phase = .pause then min 500000 (l.phaseTimer + n)
      else l.phaseTimer
    supplyWait := up 2000000 n l.supplyWait
    openLoad :=
      if l.phase = .drive ∨ (l.phase = .regulate ∧ l.chopOn = true) then
        (if l.current = .low then up 50000 n l.openLoad else none)
      else l.openLoad
    overTime := if full ∧ l.current = .high then min 1000 (l.overTime + n) else l.overTime
    chopTimer :=
      if chopping then min 500 (l.chopTimer + n)
      else if full then (l.chopTimer + n) % 500 else l.chopTimer
    chopAbove :=
      if chopping ∧ l.chopBegun = true ∧ l.chopOn = true ∧ l.current = .high then
        min 24 (l.chopAbove + ((l.chopTimer + n) - max l.chopTimer 40))
      else l.chopAbove }

/-- The window after `n` µs AWAKE (R96, R98, R103, R104, R108 to R111, R113, R115, R136, R140). -/
def windowAfter (n : Nat) (w : Window) : Window :=
  { w with
    brakeTimer := if w.bridge = .brake then min 20000 (w.brakeTimer + n) else w.brakeTimer
    coast := up 50000 n w.coast
    run :=
      if w.bridge = .drive then
        w.run.map fun r =>
          { r with
            rampTimer := if r.ramp < 400 then r.rampTimer + n else r.rampTimer
            openLoad := if w.current = .low then up 50000 n r.openLoad else none
            stall := min 150000 (r.stall + n) }
      else w.run
    move := w.move.map fun m => { m with lease := down n m.lease }
    onTime := if w.bridge = .drive then w.onTime + n else w.onTime
    offTime := if w.bridge = .drive then w.offTime else w.offTime + n
    reversalReset := up 10000000 n w.reversalReset
    spentHold := w.spentHold.map fun h => { h with remaining := h.remaining - n }
    globalSpent := w.globalSpent.map fun h => { h with remaining := h.remaining - n }
    excursion := up 100000 n w.excursion
    overTime :=
      if w.bridge = .drive ∧ w.current = .high then min 2000 (w.overTime + n) else w.overTime }

/-- What counts at every running station, with invalid straps too, while AWAKE or, where it is named so, in
SLEEP (R20 to R22, R176 to R178): dominant time and recessive time outside a telegram, by the level read
last. -/
def baseAfter (n : Nat) (s : State) : State :=
  let awake := s.power.asleep = false
  let outside := awake ∧ s.link.insideTelegram = false
  { s with
    now := s.now + n
    supply :=
      { s.supply with
        brownOutTimer := up 10000 n s.supply.brownOutTimer
        sampleTimer := up 5000 n s.supply.sampleTimer }
    link :=
      { s.link with
        isolation := up 1000000 n s.link.isolation
        dominantFor :=
          if outside ∧ s.link.level = .dominant then min 1000 (s.link.dominantFor + n)
          else s.link.dominantFor
        recessiveFor :=
          if outside ∧ s.link.level = .recessive then min 10000 (s.link.recessiveFor + n)
          else s.link.recessiveFor }
    power := { s.power with quiet := if awake then min 2000000 (s.power.quiet + n) else s.power.quiet } }

/-- What counts AWAKE and in SLEEP at an operating station: the touch scanner, whose touch times are held in a
measurement pause, the RF receiver, the crash line, a write in progress, and at the window the cooling and the
reset of the reversal counter (R89, R113, R115, R142, R143, R148, R149, R166, R184). -/
def alwaysAfter (n : Nat) (s : State) : State :=
  { s with
    touch :=
      { s.touch with
        electrodes :=
          if s.touch.paused = true then s.touch.electrodes
          else vmap (fun e => { e with touchTime := up 30000000 n e.touchTime }) s.touch.electrodes
        measureElapsed :=
          if s.touch.measuring ≠ none then min 5000 (s.touch.measureElapsed + n) else s.touch.measureElapsed
        scanElapsed := min s.touch.scanLength (s.touch.scanElapsed + n) }
    rf := { s.rf with gap := if s.rf.phase = .idle then s.rf.gap else min 3000 (s.rf.gap + n) }
    crash :=
      { s.crash with line := match s.crash.line with
          | .active t => .active (min 2000 (t + n))
          | l => l }
    settings :=
      { s.settings with
        write := s.settings.write.map fun w => { w with elapsed := min 8000 (w.elapsed + n) } }
    window :=
      if s.straps.position = 4 then s.window
      else if s.power.asleep = true then
        { s.window with
          offTime := if s.window.bridge = .drive then s.window.offTime else s.window.offTime + n
          reversalReset := up 10000000 n s.window.reversalReset }
      else windowAfter n s.window }

/-- What counts at an operating station while AWAKE, and is held in SLEEP (R31, R34, R38, R40, R41, R48 to
R59, R60, R80, R84, R102, R118, R155, R179, R180). -/
def awakeAfter (n : Nat) (s : State) : State :=
  { s with
    pins :=
      { s.pins with wakeDebounce := match s.pins.wakeDebounce with
          | some (i, t) =>
            if t + n < (if i = .latchSwitch ∨ i = .childSwitch then 5000 else 10000) then some (i, t + n)
            else none
          | none => none }
    roster :=
      { s.roster with
        peers := vmap (peerAfter n) s.roster.peers, period := up 100000 n s.roster.period }
    vehicle :=
      { s.vehicle with hold := down n s.vehicle.hold, afterRun := down n s.vehicle.afterRun }
    latch := latchAfter n s.latch
    lock :=
      { s.lock with
        deadlockWindow := down n s.lock.deadlockWindow, relock := down n s.lock.relock
        secondTurn := down n s.lock.secondTurn }
    release := { pulse := up 400000 n s.release.pulse }
    child :=
      { s.child with
        pulse := s.child.pulse.map fun p => { p with elapsed := min 250000 (p.elapsed + n) } }
    pack := { refresh := vmap (up 100000 n) s.pack.refresh }
    pinch := { s.pinch with counter := up 524280 n s.pinch.counter }
    search :=
      { s.search with wakeWait := match s.search.wakeWait with
          | .first t => .first (min 5000 (t + n))
          | .second t => .second (min 5000 (t + n))
          | w => w }
    power := { s.power with settle := up 200000 n s.power.settle } }

/-- The station after `n` µs in which nothing is commanded. One held in reset counts nothing (R177). -/
def afterTime (n : Nat) (s : State) : State :=
  if running s = false then s
  else if operating s = false then baseAfter n s
  else if s.power.asleep = true then alwaysAfter n (baseAfter n s)
  else awakeAfter n (alwaysAfter n (baseAfter n s))

/-- A timer stands at its limit. -/
def stands (limit : Nat) (t : Option Nat) : Prop := ∃ x, t = some x ∧ limit ≤ x

/-- What remains until a timer of the window expires, with its limit: of a count that runs, of a hold and of a
lease, and 0 of a count that stands at its limit (R96, R98, R103, R104, R108 to R111, R113, R115, R136, R140).
Cooling and the counter reset run in SLEEP as when AWAKE. -/
def leftFor (s : State) (x : WindowTimer) : Option Nat :=
  let w := s.window
  let standing (limit n : Nat) : Option Nat := if limit ≤ n then some 0 else none
  if hasWindow s = true ∧ (s.power.asleep = false ∨ x = .cool ∨ x = .counterReset) then
    match x with
    | .heat => if w.bridge = .drive then some (100000 - w.onTime) else standing 100000 w.onTime
    | .stall => if w.bridge = .drive then w.run.map fun r => 150000 - r.stall else none
    | .coast => w.coast.map fun t => 50000 - t
    | .lease => w.move.bind fun m => if m.kind = .global then none else m.lease
    | .globalLease => w.move.bind fun m => if m.kind = .global then m.lease else none
    | .spentHold => w.spentHold.map fun h => h.remaining
    | .globalSpent => w.globalSpent.map fun h => h.remaining
    | .brake => if w.bridge = .brake then some (20000 - w.brakeTimer) else none
    | .ramp =>
      if w.bridge = .drive then
        w.run.bind fun r => if r.ramp < 400 then some (10000 - r.rampTimer) else none
      else none
    | .excursion => if w.bridge = .drive then w.excursion.map fun t => 100000 - t else none
    | .overcurrent =>
      if w.bridge = .drive then
        if w.current = .high then some (2000 - w.overTime) else standing 2000 w.overTime
      else none
    | .openLoad =>
      if w.bridge = .drive then
        w.run.bind fun r => r.openLoad.bind fun t =>
          if w.current = .low then some (50000 - t) else standing 50000 t
      else none
    | .cool => if w.bridge = .drive then none else some (2000000 - w.offTime)
    | .counterReset => w.reversalReset.map fun t => 10000000 - t
  else none

/-- The order of the timers that expire together. -/
def inTurn : List WindowTimer :=
  [.heat, .stall, .coast, .lease, .spentHold, .brake, .ramp, .excursion, .overcurrent, .openLoad,
   .globalLease, .globalSpent, .cool, .counterReset]

/-- The timer of the window that expires first, after `t` µs. -/
def firstToExpire (s : State) (x : WindowTimer) (t : Nat) : Prop :=
  leftFor s x = some t ∧
    ∀ y u, leftFor s y = some u → t < u ∨ (t = u ∧ inTurn.idxOf x ≤ inTurn.idxOf y)

/-- The command of a timer's expiry. -/
def commandOf : WindowTimer → Instr
  | .heat => .thermalHeatTick
  | .stall => .windowStall
  | .coast => .coastEnd
  | .lease => .packLeaseExpiry
  | .globalLease => .globalLeaseExpiry
  | .spentHold => .spentHoldExpiry
  | .globalSpent => .globalSpentHoldExpiry
  | .brake => .windowBrakeEnd
  | .ramp => .rampStep
  | .excursion => .supplyExcursion
  | .overcurrent => .windowOvercurrent
  | .openLoad => .windowOpenLoad
  | .cool => .thermalCoolTick
  | .counterReset => .reversalCounterReset

/-- A hold or a lease has run out. -/
def spent (t : Option Nat) : Prop := t = some 0

/-- The timer events that are due, each with the timer, the limit and the condition of its rule. -/
def due (s : State) : Instr → Prop
  | .brownOut => running s = true ∧ stands 10000 s.supply.brownOutTimer
  | .isolationTimeout =>
    running s = true ∧ s.power.asleep = false ∧ s.link.state = .joined ∧ stands 1000000 s.link.isolation
  | .lineStuck =>
    running s = true ∧ s.power.asleep = false ∧ s.link.state ≠ .stuck ∧ s.link.insideTelegram = false ∧
      s.link.level = .dominant ∧ 1000 ≤ s.link.dominantFor
  | .stuckRelease =>
    running s = true ∧ s.power.asleep = false ∧ s.link.state = .stuck ∧ s.link.insideTelegram = false ∧
      s.link.level = .recessive ∧ 10000 ≤ s.link.tailFor + s.link.recessiveFor
  | .rfGapTimeout => operating s = true ∧ s.rf.phase ≠ .idle ∧ 3000 ≤ s.rf.gap
  | .thermalCoolTick => hasWindow s = true ∧ s.window.bridge ≠ .drive ∧ 2000000 ≤ s.window.offTime
  | .reversalCounterReset => hasWindow s = true ∧ stands 10000000 s.window.reversalReset
  | .measurementEnd n =>
    n = 5000 ∧ operating s = true ∧ s.touch.measuring ≠ none ∧ 5000 ≤ s.touch.measureElapsed
  | .scanPeriodStart => operating s = true ∧ s.touch.scanLength ≤ s.touch.scanElapsed
  | .touchStuckExpiry e =>
    measured s e = true ∧ s.touch.paused = false ∧ (s.touch.electrodes[e]).touched = true ∧
      stands 30000000 (s.touch.electrodes[e]).touchTime
  | .peerLost n =>
    active s = true ∧ (s.roster.peers[n]).presence = .present ∧ 350000 ≤ (s.roster.peers[n]).age
  | .statePeriodExpiry => active s = true ∧ stands 100000 s.roster.period
  | .vehicleHoldExpiry => active s = true ∧ spent s.vehicle.hold
  | .afterRunExpiry => active s = true ∧ spent s.vehicle.afterRun
  | .filterLifeExpiry n .lockreq =>
    active s = true ∧ spent ((s.roster.peers[n]).lockreqFilter.map (·.life))
  | .filterLifeExpiry n .windowreq =>
    active s = true ∧ spent ((s.roster.peers[n]).windowreqFilter.map (·.life))
  | .overtravelEnd => active s = true ∧ s.latch.phase = .overtravel ∧ 20000 ≤ s.latch.phaseTimer
  | .overtravelCurrentStop =>
    active s = true ∧ s.latch.phase = .overtravel ∧ s.latch.resume = .drive ∧ 1000 ≤ s.latch.overTime
  | .latchBrakeEnd => active s = true ∧ s.latch.phase = .brake ∧ 50000 ≤ s.latch.phaseTimer
  | .latchPulseLimit => active s = true ∧ s.latch.phase = .drive ∧ 300000 ≤ s.latch.pulseElapsed
  | .latchPauseEnd => active s = true ∧ s.latch.phase = .pause ∧ 500000 ≤ s.latch.phaseTimer
  | .latchSupplyWaitExpiry => active s = true ∧ stands 2000000 s.latch.supplyWait
  | .latchOvercurrent => active s = true ∧ s.latch.phase = .drive ∧ 1000 ≤ s.latch.overTime
  | .regulateChopOff =>
    active s = true ∧ (s.latch.phase = .regulate ∨ (s.latch.phase = .overtravel ∧ s.latch.resume = .regulate)) ∧
      s.latch.chopBegun = true ∧ s.latch.chopOn = true ∧ 24 ≤ s.latch.chopAbove
  | .regulationLimit =>
    active s = true ∧ s.latch.phase = .regulate ∧
      (match s.latch.regLimit with | .normal => 1200000 | .crash => 2000000) ≤ s.latch.regElapsed
  | .latchOpenLoad =>
    active s = true ∧ (s.latch.phase = .drive ∨ s.latch.phase = .regulate) ∧ stands 50000 s.latch.openLoad
  | .chopPeriodStart =>
    active s = true ∧ (s.latch.phase = .regulate ∨ (s.latch.phase = .overtravel ∧ s.latch.resume = .regulate)) ∧
      500 ≤ s.latch.chopTimer
  | .deadlockWindowExpiry => active s = true ∧ spent s.lock.deadlockWindow
  | .relockExpiry => active s = true ∧ spent s.lock.relock
  | .secondTurnExpiry => active s = true ∧ spent s.lock.secondTurn
  | .releasePulseEnd => active s = true ∧ stands 400000 s.release.pulse
  | .childPulseEnd => active s = true ∧ stands 250000 (s.child.pulse.map (·.elapsed))
  | .crashLineQualified =>
    active s = true ∧ (s.crash.due = true ∨ ∃ t, s.crash.line = .active t ∧ 2000 ≤ t)
  | .thermalHeatTick => active s = true ∧ hasWindow s = true ∧ 100000 ≤ s.window.onTime
  | .windowStall =>
    active s = true ∧ hasWindow s = true ∧ s.window.bridge = .drive ∧
      stands 150000 (s.window.run.map (·.stall))
  | .coastEnd => active s = true ∧ hasWindow s = true ∧ stands 50000 s.window.coast
  | .packRefreshExpiry k => active s = true ∧ hasWindow s = true ∧ stands 100000 s.pack.refresh[k]
  | .packLeaseExpiry =>
    active s = true ∧ hasWindow s = true ∧ ∃ m, s.window.move = some m ∧ m.kind ≠ .global ∧ spent m.lease
  | .globalLeaseExpiry =>
    active s = true ∧ hasWindow s = true ∧ ∃ m, s.window.move = some m ∧ m.kind = .global ∧ spent m.lease
  | .spentHoldExpiry =>
    active s = true ∧ hasWindow s = true ∧ spent (s.window.spentHold.map (·.remaining))
  | .globalSpentHoldExpiry =>
    active s = true ∧ hasWindow s = true ∧ spent (s.window.globalSpent.map (·.remaining))
  | .windowBrakeEnd =>
    active s = true ∧ hasWindow s = true ∧ s.window.bridge = .brake ∧ 20000 ≤ s.window.brakeTimer
  | .rampStep =>
    active s = true ∧ hasWindow s = true ∧ s.window.bridge = .drive ∧
      ∃ r, s.window.run = some r ∧ 10000 ≤ r.rampTimer ∧ r.ramp < 400
  | .supplyExcursion =>
    active s = true ∧ hasWindow s = true ∧ s.window.bridge = .drive ∧ stands 100000 s.window.excursion
  | .windowOvercurrent =>
    active s = true ∧ hasWindow s = true ∧ s.window.bridge = .drive ∧ 2000 ≤ s.window.overTime
  | .windowOpenLoad =>
    active s = true ∧ hasWindow s = true ∧ s.window.bridge = .drive ∧
      ∃ r, s.window.run = some r ∧ stands 50000 r.openLoad
  | .wakeWaitEnd =>
    active s = true ∧ ∃ t, (s.search.wakeWait = .first t ∨ s.search.wakeWait = .second t) ∧ 5000 ≤ t
  | .slotStart k =>
    active s = true ∧ s.search.phase = .inFlight ∧ min k.val 4 = s.straps.position.val ∧
      s.search.nextSlot ≤ k.val ∧ 1000 + 3000 * k.val ≤ s.now - s.search.t0.getD s.now
  | .collectingStart =>
    active s = true ∧ s.search.phase = .inFlight ∧ 18000 ≤ s.now - s.search.t0.getD s.now
  | .collectionEnd =>
    active s = true ∧ s.search.phase = .collecting ∧ 120000 ≤ s.now - s.search.t0.getD s.now
  | .quietTimerExpiry =>
    active s = true ∧ s.power.entry = .announcing ∧ s.power.flagSent = true ∧ 2000000 ≤ s.power.quiet
  | .settleExpiry =>
    active s = true ∧ s.power.entry = .settling ∧ stands 200000 s.power.settle ∧ s.link.tx = [] ∧
      s.link.rx = []
  | _ => False

end Sys2Proof.Claims

open Sys2Proof.Claims

/-! ## The machine -/

/-- With a command at the front of the queue, the step is that command's effect on the state with the
queue's rest. -/
def Obligations.StepRunsFrontCommand : Prop :=
  ∀ (c : Instr) (rest : List Instr) (s : State), s.pending = c :: rest →
    step s = exec c { s with pending := rest }

/-- On an empty queue the station takes its oldest telegram (R18), else starts its oldest write (R184), else
1 µs passes and the events that came due are queued. That an idle step does this, and in this order, is the
model's choice (notes/assumptions/5.md). What counts with the time, AWAKE and in SLEEP, and up to which limit
(R20 to R22, R31, R34, R38, R40, R41, R48 to R55, R59, R60, R89, R96, R98, R103, R104, R108 to R111, R113,
R115, R118, R142, R143, R148, R155, R166, R176 to R180), and which timer events are then due. The levels that
the counts of R21 and R22 presume between events are the model's choice (notes/assumptions/11.md), and so
are the phase of the 2 kHz period (notes/assumptions/50.md) and the timer events that a step queues itself
(notes/assumptions/6.md). -/
def Obligations.IdleStep : Prop :=
  (∀ s : State, s.pending = [] →
    (∀ m t, takes s m t → step s = .next { s with pending := [takingOf m] }) ∧
    ((s.link.rx = [] ∨ running s = false ∨ s.power.asleep = true) →
      (operating s = true → s.settings.write = none → s.settings.writes ≠ [] →
        step s = .next { s with pending := [.nvmWriteStart] }) ∧
      (operating s = false ∨ s.settings.write ≠ none ∨ s.settings.writes = [] →
        step s = .next { afterTime 1 s with pending := dueEvents (afterTime 1 s) }))) ∧
  (∀ (n : Nat) (s : State), elapse n s = afterTime n s) ∧
  (∀ (c : Instr) (s : State), c ∈ dueEvents s ↔ due s c)

/-- Every command goes on at every state, and leaves the queue alone. That a command whose event cannot arise
leaves the state as it is, and that the commands wait in a queue of their own, are the model's choices
(notes/assumptions/7.md, 4.md). -/
def Obligations.EveryCommandGoesOn : Prop :=
  ∀ (c : Instr) (s : State), ∃ t, exec c s = .next t ∧ t.pending = s.pending

/-- R24: the straps are sampled at a power-on and hold until the next one. -/
def Obligations.StrapsSampledAtPowerOn : Prop :=
  ∀ (s t : State), step s = .next t →
    (∀ i rest, s.pending = .powerOn i :: rest → t.straps = i.straps) ∧
    ((∀ i rest, s.pending ≠ .powerOn i :: rest) → t.straps = s.straps)

/-- R34, R178, R179: what ends every event: changed fields are reported, readiness is judged, and a changed
sleeping flag is reported. What this can change: the transmit queue, the last placed STATE with its period
timer, the sleep entry, and the fault record, the last only where a STATE had no place in a full queue (R15).
That a STATE is placed at the end of the event, once more where its own refusal changed the fault summary,
is the model's choice (notes/assumptions/13.md). -/
def Obligations.ConcludeFrame : Prop :=
  ∀ s : State,
    (running s = true →
      conclude s = reported (reported (judgeSleep (reported (reported s))))) ∧
    (running s = false → conclude s = s) ∧
    conclude s =
      { s with
        link := { s.link with tx := (conclude s).link.tx }
        roster :=
          { s.roster with
            lastPlaced := (conclude s).roster.lastPlaced, period := (conclude s).roster.period }
        faults := (conclude s).faults
        power :=
          { s.power with
            entry := (conclude s).power.entry, settle := (conclude s).power.settle
            flagSent := (conclude s).power.flagSent
            sleepingFlag := (conclude s).power.sleepingFlag } } ∧
    ((s.link.tx.length < 6 ∨ ∃ e ∈ s.link.tx, e.telegram.kind = 8) →
      (conclude s).faults = s.faults)

/-- R34, over every step: while the station acts, the last placed STATE carries the present value of every
reported field. That it does so at the end of each command is the model's choice (notes/assumptions/13.md).
-/
def Obligations.ReportLawKept : Prop :=
  ∀ s t : State, ReportLaw s → step s = .next t → ReportLaw t

/-- R58, R90 and section 3.2, over every step: no DEADLOCKED target with the own door open, and none but
UNLOCKED in crash hold. -/
def Obligations.LatchLawKept : Prop :=
  ∀ s t : State, LatchLaw s → step s = .next t → LatchLaw t

/-- R96, R106, R113 and R114, over every step: nothing moves up in crash hold, a POSITIONED window lies in
its travel, H stays within 1000, and a run has its move's direction. -/
def Obligations.WindowLawKept : Prop :=
  ∀ s t : State, WindowLaw s → step s = .next t → WindowLaw t

/-- R12 and R17, over every step: the capacities, the order by kind and the one STATE of the queues. -/
def Obligations.QueueLawKept : Prop :=
  ∀ s t : State, QueueLaw s → step s = .next t → QueueLaw t

/-- R170, over every step: a resync candidate stands ahead of its counter, and no counter falls but at a
power-on, a brown-out or an ENROL. -/
def Obligations.FobCountersKept : Prop :=
  ∀ s t : State, FobLaw s → step s = .next t →
    FobLaw t ∧
    ((∀ c rest, s.pending = c :: rest → setsCounters c = false) → countersRise s t)

/-- The state after reset keeps every law. The straps, levels, supply and store of that state are the
model's choices (notes/assumptions/1.md, 2.md, 3.md). -/
def Obligations.ResetKeepsLaws : Prop :=
  ReportLaw State.reset ∧ LatchLaw State.reset ∧ WindowLaw State.reset ∧ QueueLaw State.reset ∧
    FobLaw State.reset

/-- R177: a station held in reset acts on nothing but its POWER_ON and its comparator. R27: at a station
with invalid straps every command but the named ones changes nothing, and the dispatcher discards every
telegram. That R27's list is complete is the model's reading (notes/assumptions/27.md), and so is what a
station held in reset acts on (notes/assumptions/33.md). What it is to run, to operate, to be active, and to
have a window (R23, R27, R95, R177). -/
def Obligations.StationsThatDoNotAct : Prop :=
  (∀ s : State,
     (running s = true ↔ s.supply.heldInReset = false) ∧
     (configFault s = true ↔ strapsValid s.straps = false) ∧
     (operating s = true ↔ running s = true ∧ configFault s = false) ∧
     (active s = true ↔ operating s = true ∧ s.power.asleep = false) ∧
     (hasWindow s = true ↔ operating s = true ∧ s.straps.position ≠ 4)) ∧
  (∀ (c : Instr) (s : State), running s = false → (∀ i, c ≠ .powerOn i) →
     (∀ b, c ≠ .supplyComparatorChange b) → exec c s = .next s) ∧
  (∀ (c : Instr) (s : State), configFault s = true →
     (actsWithInvalidStraps c = false → exec c s = .next s) ∧
     (running s = true → s.power.asleep = false → s.link.rx ≠ [] →
       exec .dispatchDiscard s = .next (conclude (popped s))))

/-! ## Encodings -/

/-- Section 1.9: a STATE's nine bytes decode to the contents they were written from, and a payload that
decodes is the one its contents are written as. The nine bytes, each with its codes. Which values are not
listed is the model's reading (notes/assumptions/16.md). -/
def Obligations.StateEncodingRoundTrip : Prop :=
  (∀ (p : List Byte) (c : StateContents),
    decodeState p = some c ↔
      encodeState c = p ∧ (c.percent.toNat ≤ 100 ∨ c.percent = 255) ∧
        (c.source.toNat ≤ 13 ∨ c.source = 255)) ∧
  (∀ c : StateContents,
    let bit (b : Bool) (n : Nat) : Nat := if b = true then n else 0
    let observed : Nat := match c.observed with
      | .unlocked => 0 | .locked => 1 | .deadlocked => 2 | .unknown => 3
    let target : Nat := match c.target with | .unlocked => 0 | .locked => 1 | .deadlocked => 2
    let window : Nat := match c.windowClass with
      | .absent => 0 | .stopped => 1 | .movingUp => 2 | .movingDown => 3 | .reversing => 4
      | .halted => 5 | .supplyPause => 6 | .globalRefused => 7
    let knowledge : Nat := match c.knowledge with
      | .unpositioned => 0 | .bottomKnown => 1 | .positioned => 2
    let verdict : Nat := match c.verdict with
      | .none => 0 | .notFound => 1 | .inside => 2 | .outsideAt d => 3 + d.val | .outsideNear d => 8 + d.val
    let refusal : Nat := match c.refusal with
      | .none => 0 | .crashHold => 1 | .keyInside => 2 | .notSent => 3
    encodeState c =
      [BitVec.ofNat 8
          (bit c.doorOpen 1 + bit c.sleeping 2 + bit c.crashHold 4 + bit c.childOn 8 + bit c.joining 16),
        BitVec.ofNat 8 (16 * observed + target), BitVec.ofNat 8 (16 * window + knowledge), c.percent, c.source,
        c.sequence, c.summary.extractLsb' 8 8, c.summary.extractLsb' 0 8,
        BitVec.ofNat 8 (16 * verdict + refusal)])

/-- Section 1.9 and R18: every payload that a station sends is read by a peer's dispatcher as what it was sent
for: CRASH, PINCH, LOCKREQ, WINDOWREQ with every target set, SEARCH, FOBREPORT in both forms, STATE, FAULT and
SERVICEACK, and so are the vehicle node's VEHICLE and the tool's SERVICE. Every other telegram is discarded:
one of the own number, of a node that does not send its kind, and one whose payload is not listed. The codes
that the payloads share. Which values are not listed is the model's reading (notes/assumptions/16.md). -/
def Obligations.PayloadsReadBack : Prop :=
  (∀ (own : Fin 8) (t : Telegram), readTelegram own t ≠ .discarded ↔ handedOn own t) ∧
  (∀ own : Fin 8,
    (∀ (v : Byte) (i : Ignition), own ≠ 6 →
      readTelegram own ⟨7, 6, [v, match i with | .off => 0 | .acc => 1 | .on => 2 | .crank => 3]⟩ =
        .vehicle v i) ∧
    (∀ (k : Subtype) (station : Byte) (args : List Byte), own ≠ 7 → station.toNat ≤ 4 →
      args.length = (match k with | .enrol => 8 | .option => 10 | .clearfault => 0 | .forgetWindow => 0) →
      readTelegram own ⟨10, 7, subtypeCode k :: station :: args⟩ = .service k station args)) ∧
  ([Subtype.enrol, .option, .clearfault, .forgetWindow].map subtypeCode = [1, 2, 3, 4] ∧
    [Zone.unlock, .lock, .release].map zoneCode = [1, 2, 3] ∧
    [MoveKind.manual, .auto, .global, .reversal].map moveKindCode = [0, 1, 2, 3] ∧
    [WindowAction.manualUp, .manualDown, .autoUp, .autoDown, .stop].map windowActionCode =
      [1, 2, 3, 4, 5] ∧
    [LockCause.insideButton, .keyCylinder, .keyless].map lockCauseCode = [1, 2, 3] ∧
    (∀ a c q x, lockreqPayload a c q x =
      [(match a with | .lock => 1 | .deadlock => 2 | .unlock => 3), lockCauseCode c, q] ++
        (if c = .keyless then [x] else [])) ∧
    [FaultKind.config, .busNoack, .busStuck, .busIsolated, .txOverflow, .latchTimeout, .latchOvercurrent,
        .latchOpenLoad, .childActuator, .windowOvercurrent, .windowHall, .windowTravel, .windowOpenLoad,
        .lfOpen, .touchOverflow, .nvmWrite].map faultCode = List.range 16) ∧
  ∀ (own : Fin 8) (n : BitVec 3), n.toNat ≤ 4 → n.toFin ≠ own →
    (∀ x : Byte, x ≠ 0 → readTelegram own ⟨1, n, [x]⟩ = .crash n.toFin x) ∧
    (∀ (k : MoveKind) (w : Byte), w.toNat ≤ 100 ∨ w = 255 →
      readTelegram own ⟨2, n, [moveKindCode k, w]⟩ = .pinch n.toFin) ∧
    (∀ (a : CentralAction) (c : LockCause) (q x : Byte), c = .insideButton ∨ c = .keyCylinder →
      readTelegram own ⟨3, n, lockreqPayload a c q x⟩ = .central n.toFin a c q 0) ∧
    (∀ (a : CentralAction) (q x : Byte), numbered x →
      readTelegram own ⟨3, n, lockreqPayload a .keyless q x⟩ = .central n.toFin a .keyless q x) ∧
    (∀ q : Byte, readTelegram own ⟨3, n, [4, 4, q]⟩ = .childRequest n.toFin true q ∧
      readTelegram own ⟨3, n, [5, 4, q]⟩ = .childRequest n.toFin false q) ∧
    (∀ (set : BitVec 5) (a : WindowAction) (q : Byte),
      readTelegram own ⟨4, n, [set.setWidth 8, windowActionCode a, q]⟩ =
        .windowreq n.toFin (set.setWidth 8) a q) ∧
    (∀ (x : Byte) (z : Zone) (set : BitVec 6), numbered x →
      readTelegram own ⟨5, n, [x, zoneCode z, set.setWidth 8]⟩ = .search n.toFin x set) ∧
    (∀ (f : BitVec 2) (k : Fin 6) (c2 c1 c0 t3 t2 t1 t0 : Byte),
      let command : FobCommand := match k with
        | 0 => .unlock | 1 => .lock | 2 => .tailgate | 3 => .closeAll | 4 => .openAll | 5 => .searchReply
      let b : Byte := f ++ (0 : BitVec 2) ++ BitVec.ofNat 4 (k.val + 1)
      (k ≠ 5 →
        readTelegram own ⟨6, n, [0, b, c2, c1, c0, t3, t2, t1, t0]⟩ =
          .fobReport n.toFin
            { search := 0, fob := f.toFin, command := command, fobByte := b, counter := c2 ++ c1 ++ c0
              readings := [], tag := t3 ++ t2 ++ t1 ++ t0 }) ∧
      (∀ x r0 r1 r2 r3 r4 r5 : Byte, k = 5 → x ≠ 0 → numbered x →
        readTelegram own ⟨6, n, [x, b, c2, c1, c0, r0, r1, r2, r3, r4, r5, t3, t2, t1, t0]⟩ =
          .fobReport n.toFin
            { search := x, fob := f.toFin, command := command, fobByte := b, counter := c2 ++ c1 ++ c0
              readings := [r0, r1, r2, r3, r4, r5], tag := t3 ++ t2 ++ t1 ++ t0 })) ∧
    (∀ c : StateContents, c.percent.toNat ≤ 100 ∨ c.percent = 255 →
      c.source.toNat ≤ 13 ∨ c.source = 255 →
      readTelegram own ⟨8, n, encodeState c⟩ = .state n.toFin c) ∧
    (∀ r : FaultRecord, r.more ≤ 15 → readTelegram own ⟨9, n, faultPayload r⟩ = .fault n.toFin) ∧
    (∀ (k : Subtype) (r : Byte), 1 ≤ r.toNat → r.toNat ≤ 4 →
      readTelegram own ⟨11, n, [subtypeCode k, r]⟩ = .serviceack n.toFin)

/-- R2, R3, R7: the CRC-8 of the check field, bit by bit, over arbitration, length and payload, each with its
most significant bit first, and the receiver's comparison; the frame that a sender drives passes it. A
telegram is cut short where its check fails and what was read ends in ten recessive bits. -/
def Obligations.CheckField : Prop :=
  (∀ (w : Nat) (x : BitVec w),
    (bitsMsb x).length = w ∧ ∀ i, i < w → (bitsMsb x)[i]? = some (x.getLsbD (w - 1 - i))) ∧
  (∀ f : LineFrame,
    cutShort f = true ↔
      checkPass f = false ∧
        ∃ read, coveredBits f ++ bitsMsb f.check = read ++ List.replicate 10 true) ∧
  crc8 [] = 0xFF ∧
  (∀ (bits : List Bool) (b : Bool),
    crc8 (bits ++ [b]) =
      if (crc8 bits).msb = b then crc8 bits <<< 1 else (crc8 bits <<< 1) ^^^ 0x1D) ∧
  (∀ f : LineFrame,
    coveredBits f =
      bitsMsb f.kind ++ bitsMsb f.sender ++ bitsMsb f.length ++ f.payload.flatMap bitsMsb ∧
    (coveredBits f).length = 11 + 8 * f.payload.length ∧
    (checkPass f = true ↔
      f.payload.length = f.length.toNat ∧ crc8 (coveredBits f) = f.check)) ∧
  (∀ t : Telegram, t.payload.length ≤ 15 →
    telegramOf (telegramFrame t) = t ∧ (telegramFrame t).length = BitVec.ofNat 4 t.payload.length ∧
    (telegramFrame t).check = crc8 (coveredBits (telegramFrame t)) ∧
      checkPass (telegramFrame t) = true)

/-! ## The link -/

/-- R1, R3, R7, R8, R17, R19, R20, R22, R178, R179: a telegram received, a plain check error and both
aborts, at a station that listens. The bits of an end field are no part of an idle line, but the recessive
bits at the end of a telegram, from the acknowledge field or earlier on, belong to the run that releases
STUCK. A telegram with a check pass has its own slot driven where the receive queue has a free place at that
slot, and takes that place when it is complete; a station drives no slot for a telegram that it sent itself,
after a collision (R8). A dominant end bit voids the slot that was driven, and a telegram cut short has
none. That the place is judged from the telegrams held and taken at the slot's instant, with none while
STUCK, is the model's reading (notes/assumptions/10.md), and how long the line can have held its level when
an event ends, with the acknowledge slots that a frame brings, is its choice (notes/assumptions/11.md),
and so is that the settle timer stops where the phase returns to ANNOUNCING (notes/assumptions/49.md). -/
def Obligations.ReceptionRows : Prop :=
  ∀ s : State, running s = true → s.power.asleep = false → noAttempt s →
    (∀ f : LineFrame, checkPass f = true →
      exec (.telegramReceived f) s =
        .next (conclude (quietAfter (telegramOf f) { s with link := linkAfter s f }))) ∧
    (∀ f : LineFrame, checkPass f = false → cutShort f = false →
      exec (.plainCheckError f) s =
        .next (conclude { s with link := { ended f s.link with ackDriven := none } })) ∧
    (∀ f : LineFrame, cutShort f = true →
      exec (.abort (.cutShort f)) s =
        .next (conclude { s with link :=
          { s.link with
            insideTelegram := false, synchronised := false, own := none, ackDriven := none
            level := .recessive, dominantFor := 0, recessiveFor := 20 * tailBits f
            tailFor := 0 } })) ∧
    (∀ (f : LineFrame) (bit : Fin 4), cutShort f = false →
      exec (.abort (.dominantEndBit f bit)) s =
        .next (conclude { s with link :=
          { s.link with
            insideTelegram := false, synchronised := false, own := none, level := .dominant
            ackDriven :=
              if checkPass f = true ∧ hadPlace s f (9 + bit.val - s.straps.position.val) = true then
                some s.straps.position
              else none
            dominantFor := if bit = 0 then 20 else 0
            recessiveFor := 0, tailFor := 0 } }))

/-- R4 to R6, R8, R9, R19, R20: an attempt starts after 10 recessive bits (20 when not synchronised), loses
arbitration without being counted, collides, after which the station knows its own telegram again, or ends
with the acknowledge slots it read. R1, R21, R22: where it starts no attempt, the command is the reading of
the line outside a telegram: recessive for so many bits, the start bit of a telegram after 10 of them, or
dominant. That this command carries the readings is the model's choice (notes/assumptions/11.md), and so is
that an own complete attempt synchronises the station, and that a waiting replacement is made at a lost
arbitration, and that a SEARCH whose withdrawal was asked in a lost attempt stays queued
(notes/assumptions/12.md, 38.md, 52.md), and that a collided attempt reads the roster of R9 at its end
(notes/assumptions/54.md). -/
def Obligations.AttemptRows : Prop :=
  (∀ (s : State) (n : Nat), running s = true → s.power.asleep = false →
    (s.link.insideTelegram = true → exec (.attemptStart n) s = .next s) ∧
    (s.link.insideTelegram = false →
      let read : Link :=
        { s.link with
          level := .recessive, dominantFor := 0, recessiveFor := min 10000 (20 * n) }
      let may := configFault s = false ∧ s.link.state ≠ .stuck ∧
        (if s.link.synchronised then 10 else 20) ≤ n
      (∀ e rest, s.link.tx = e :: rest → may →
        exec (.attemptStart n) s =
          .next (conclude { s with link :=
            { read with insideTelegram := true, tx := { e with inAttempt := true } :: rest } })) ∧
      (s.link.tx = [] ∨ ¬ may → 0 < n →
        exec (.attemptStart n) s = .next (conclude { s with link := read })) ∧
      (n = 0 → s.link.level = .recessive → 200 ≤ s.link.recessiveFor →
        exec (.attemptStart n) s =
          .next (conclude { s with link :=
            { s.link with
              insideTelegram := true, level := .dominant, dominantFor := 0, recessiveFor := 0
              tailFor := 0 } })) ∧
      (n = 0 → s.link.level = .recessive → s.link.recessiveFor < 200 →
        exec (.attemptStart n) s =
          .next (conclude { s with link :=
            { s.link with level := .dominant, dominantFor := 20, recessiveFor := 0, tailFor := 0 } })) ∧
      (n = 0 → s.link.level = .dominant →
        exec (.attemptStart n) s =
          .next (conclude { s with link := { s.link with recessiveFor := 0, tailFor := 0 } })))) ∧
  (∀ s : State, active s = true →
    (∀ pre e post, attemptAt s pre post e →
      let read (slots : Byte) : Link :=
        { ended { telegramFrame e.telegram with slots } s.link with ackDriven := none }
      exec .arbitrationLoss s =
        .next (conclude { s with link :=
          { s.link with tx := pre ++
              (match e.waiting with
                | none => { e with inAttempt := false }
                | some t => fresh t) :: post } }) ∧
      exec .collision s =
        .next (conclude
          (endAttempt 0 true { s with link := { s.link with own := some e.telegram } })) ∧
      (∀ slots : Byte,
        (slots &&& ~~~(BitVec.twoPow 8 s.straps.position.val) = 0 ∨ s.link.state = .stuck →
          exec (.attemptEnd slots) s =
            .next (conclude (endAttempt slots false { s with link := read slots }))) ∧
        (slots &&& ~~~(BitVec.twoPow 8 s.straps.position.val) ≠ 0 → s.link.state ≠ .stuck →
          exec (.attemptEnd slots) s =
            .next (conclude (endAttempt slots false
              { s with link := { read slots with state := .joined, isolation := some 0 } }))))))

/-- R9: the expected ackers are the stations that the roster showed at the instant the acknowledge field
ended, 80 µs before the end of the attempt. R9 to R11, R13, R14: what becomes of the entry at the end of its
attempt, and the outcome at its block. A kind that is sent once leaves; a retried kind leaves when every
expected acker answered an attempt that did not collide, stays with its count raised after the first and
second attempt, and leaves with BUS_NOACK after the third. An entry that has been replaced stays with the
new contents. R155, R179: a STATE ends the wait for it, sends the flag or, collided, abandons sleep entry.
R156: a SEARCH that went out is IN_FLIGHT from now, and a collided one is abandoned. R65: an own central
LOCKREQ that has left is no more in flight, and is applied again where it was overtaken. The outcome of an
entry replaced in its attempt, and the instant of the roster at a collided attempt, are the model's readings
(notes/assumptions/38.md, 54.md). -/
def Obligations.EntryAfterAttempt : Prop :=
  (∀ (s : State) (pre post : List TxEntry) (e : TxEntry) (slots : Byte) (collided : Bool),
    attemptAt s pre post e → active s = true →
    let k := e.telegram.kind
    let missing := expectedAckers (if collided = true then 0 else 80) s &&& ~~~slots
    let held := collided = false ∧ missing = 0
    let after (stays : List TxEntry) : State :=
      { s with
        link := { s.link with tx := pre ++ stays ++ post }
        power := { s.power with settle := if s.power.entry = .settling then some 0 else s.power.settle } }
    let central := k = 3 ∧ payloadByte e.telegram 1 ≠ 4
    let leaves : List TxEntry := match e.waiting with
      | none => []
      | some t => [fresh t]
    let retried : List TxEntry := match e.waiting with
      | none => [{ e with attempts := e.attempts + 1, missing := missing, inAttempt := false }]
      | some t => [fresh t]
    let noack (u : State) : State := captureAwake .busNoack (k.setWidth 8) (missing &&& 0x1F) 3 u
    let u := endAttempt slots collided s
    (k = 8 → u = settles (flagOutcome collided (waited (after leaves)))) ∧
    (k = 5 →
      (s.search.awaited = false → u = after leaves) ∧
      (s.search.awaited = true → collided = false → u = flight e.telegram (after leaves)) ∧
      (s.search.awaited = true → collided = true → u = abandoned (after leaves))) ∧
    (k = 11 → u = after leaves) ∧
    (k ≠ 8 → k ≠ 5 → k ≠ 11 →
      (held →
        (central → u = confirmed e.telegram (after leaves)) ∧ (¬ central → u = after leaves)) ∧
      (¬ held → e.attempts < 2 → u = after retried) ∧
      (¬ held → 2 ≤ e.attempts →
        (central → u = confirmed e.telegram (noack (after leaves))) ∧
        (¬ central → u = noack (after leaves))))) ∧
  (∀ (s : State) (k : Fin 8),
    ((shownNodes s).getLsbD k.val = true ↔
      (s.roster.peers[k]).presence = .present ∨ (s.roster.peers[k]).presence = .asleep) ∧
    (∀ age : Nat,
      let shownThen (nodes : Byte) : Prop :=
        (expectedAckers age s).getLsbD k.val = true ↔
          k.val < 5 ∧ expectedStation s.straps.body k.val = true ∧ k ≠ s.straps.position ∧
            nodes.getLsbD k.val = true
      ((∀ x ∈ s.roster.earlier, x.upTo + age ≤ s.now) → shownThen (shownNodes s)) ∧
      (∀ pre x post, s.roster.earlier = pre ++ x :: post → (∀ y ∈ pre, y.upTo + age ≤ s.now) →
        s.now < x.upTo + age → shownThen x.shown)))

/-- R12 to R15 and R22: how the link answers a placement, and the TX_OVERFLOW of a refused one. -/
def Obligations.PlacementRules : Prop :=
  (∀ (t : Telegram) (l : Link),
    (l.state = .stuck → enqueue t l = (l, .dropped)) ∧
    (l.state ≠ .stuck →
      (∀ pre e post, l.tx = pre ++ e :: post → takesOver t e → (∀ x ∈ pre ++ post, ¬ takesOver t x) →
        enqueue t l = ({ l with tx := pre ++ tookOver t e :: post }, .taken)) ∧
      ((∀ e ∈ l.tx, ¬ takesOver t e) →
        (6 ≤ l.tx.length → enqueue t l = (l, .refused)) ∧
        (l.tx.length < 6 → sortedByKind l.tx →
          enqueue t l =
            ({ l with tx :=
                l.tx.filter (fun e => decide (e.telegram.kind ≤ t.kind)) ++
                  fresh t :: l.tx.filter (fun e => decide (t.kind < e.telegram.kind)) },
              .taken))))) ∧
  (∀ (t : Telegram) (s : State) (l : Link),
    (enqueue t s.link = (l, .taken) → place t s = ({ s with link := l }, .taken)) ∧
    (enqueue t s.link = (l, .dropped) → place t s = (s, .dropped)) ∧
    (enqueue t s.link = (l, .refused) →
      place t s = (captureAwake .txOverflow (t.kind.setWidth 8) 0 0 s, .refused)))

/-- R15, R181: a capture at a station that is AWAKE fills an empty record and places a FAULT, or raises the
more count of a held one, to 15 at most, and places the FAULT again where the count has changed and the
capture is not the link's own report of a FAULT. A capture at a station in SLEEP first wakes it, and the wake
STATE is placed before what the capture places (R180). A FAULT that is refused is captured in its turn, without a
further FAULT; one that is dropped leaves nothing. -/
def Obligations.CaptureRule : Prop :=
  (∀ (k : FaultKind) (a b c : Byte) (s : State),
    (s.power.asleep = false → capture k a b c s = captureAwake k a b c s) ∧
    (s.power.asleep = true → capture k a b c s = captureAwake k a b c (placeState (woken s)))) ∧
  ∀ (k : FaultKind) (a b c : Byte) (s : State), configFault s = false →
    let flags := s.faults.summary ||| BitVec.twoPow 16 (faultCode k)
    (s.faults.record = none →
      let r : FaultRecord :=
        { kind := k, d0 := a, d1 := b, d2 := c, time := min (s.now / 1000000) 65535, more := 0 }
      captureAwake k a b c s = placeFault { s with faults := { record := some r, summary := flags } }) ∧
    (∀ r, s.faults.record = some r →
      (r.more < 15 → ¬ ((k = .busNoack ∨ k = .txOverflow) ∧ a = 9) →
        captureAwake k a b c s =
          placeFault { s with faults := { record := some { r with more := r.more + 1 },
                                          summary := flags } }) ∧
      (r.more < 15 → (k = .busNoack ∨ k = .txOverflow) → a = 9 →
        captureAwake k a b c s =
          { s with faults := { record := some { r with more := r.more + 1 }, summary := flags } }) ∧
      (15 ≤ r.more →
        captureAwake k a b c s =
          { s with faults := { record := some { r with more := 15 }, summary := flags } })) ∧
    (∀ r l, s.faults.record = some r →
      let t : Telegram :=
        { kind := 9, sender := BitVec.ofFin s.straps.position
          payload :=
            [BitVec.ofNat 8 (faultCode r.kind), r.d0, r.d1, r.d2, BitVec.ofNat 8 r.more,
              BitVec.ofNat 8 (r.time / 256), BitVec.ofNat 8 (r.time % 256)] }
      (enqueue t s.link = (l, .taken) → placeFault s = { s with link := l }) ∧
      (enqueue t s.link = (l, .dropped) → placeFault s = s) ∧
      (enqueue t s.link = (l, .refused) →
        placeFault s =
          { s with faults :=
            { record := some { r with more := min 15 (r.more + 1) }
              summary := s.faults.summary ||| 0x10 } }))

/-- R20 to R22: the isolation timeout, a line whose reading has stayed dominant for 1 ms outside a telegram,
and one that has then read recessive for 10 ms. R22, R65, R155, R156, R179: on entry to STUCK every queued entry is
dropped, each with its outcome at its block. How the readings come to the two counts is the model's choice
(notes/assumptions/11.md). What becomes of the wake wait at a dropped STATE, and of the isolation timer
outside JOINED, are the model's readings (notes/assumptions/29.md, 30.md). -/
def Obligations.LinkStateRows : Prop :=
  ∀ s : State, running s = true → s.power.asleep = false →
    (s.link.state = .joined →
      exec .isolationTimeout s =
        .next (conclude (captureAwake .busIsolated 0 0 0
          { s with link := { s.link with state := .isolated } }))) ∧
    (s.link.state ≠ .joined → exec .isolationTimeout s = .next s) ∧
    (let stuck : State :=
        { s with link :=
          { s.link with
            state := .stuck, insideTelegram := false, own := none, tx := [], ackDriven := none
            recessiveFor := 0, tailFor := 0 } };
      (s.link.state ≠ .stuck → s.link.insideTelegram = false → s.link.level = .dominant →
        1000 ≤ s.link.dominantFor →
        exec .lineStuck s =
          .next (conclude (captureAwake .busStuck 0 0 0 (s.link.tx.foldl dropped stuck)))) ∧
      (s.link.state = .stuck ∨ s.link.insideTelegram = true ∨ s.link.level = .recessive ∨
          s.link.dominantFor < 1000 →
        exec .lineStuck s = .next s)) ∧
    (s.link.state = .stuck → s.link.insideTelegram = false → s.link.level = .recessive →
      10000 ≤ s.link.tailFor + s.link.recessiveFor →
      exec .stuckRelease s =
        .next (conclude { s with link := { s.link with state := .joining, synchronised := false } })) ∧
    (s.link.state ≠ .stuck ∨ s.link.insideTelegram = true ∨ s.link.level = .dominant ∨
        s.link.tailFor + s.link.recessiveFor < 10000 →
      exec .stuckRelease s = .next s)

/-! ## Power -/

/-- R26, R27, R28, R44, R74, R94, R95, R113, R116, R117, R168, R182, R183: what a power-on leaves, with valid
straps and with invalid ones, and what it loads: a record whose check fails, or a value of which lies outside
its range, takes its defaults; a window record with the moving marker loads UNPOSITIONED. What the operand
does not give, such as the currents, that the sample stands in it in millivolts, what a station held in reset
keeps, the key and counter of a fob entry not enrolled, a POSITIONED record without P_top, and the marker that
stays set with a rest position of 0, are the model's choices (notes/assumptions/1.md, 32.md, 33.md, 46.md,
47.md, 48.md). R25: the expected set of a body style, the straps that are valid, and the driver station. -/
def Obligations.PowerOnValues : Prop :=
  (∀ n : Nat,
    (expectedStation .fiveDoor n = true ↔ n ≤ 4) ∧
    (expectedStation .threeDoor n = true ↔ n = 0 ∨ n = 1 ∨ n = 4)) ∧
  (∀ x : Straps,
    strapsValid x = true ↔
      x.position.val ≤ 4 ∧ (x.body = .threeDoor → x.position ≠ 2 ∧ x.position ≠ 3)) ∧
  (∀ s : State,
    isDriverStation s = true ↔
      s.straps.position = (match s.straps.driveSide with | .left => 0 | .right => 1)) ∧
  (∀ (i : PowerOnInputs) (s : State), ∃ t, exec (.powerOn i) s = .next t ∧
    t.pending = s.pending ∧ t.now = 0 ∧ t.straps = i.straps ∧
    t.link.state = .joining ∧ t.link.synchronised = false ∧ t.link.rx = [] ∧ t.link.isolation = some 0 ∧
    t.roster.peers = Vector.replicate 8 Peer.initial ∧
    t.vehicle = { speed := none, ignition := .off, hold := none, offSeen := true, afterRun := none } ∧
    t.latch.observed = positionOf i.latchA i.latchB ∧
    t.latch.target =
      (match positionOf i.latchA i.latchB with
        | .unlocked => .unlocked
        | .locked => .locked
        | .deadlocked => if i.doorOpen then .unlocked else .deadlocked
        | .unknown => .unlocked) ∧
    t.lock.action = none ∧ t.lock.driveAwayArmed = false ∧ t.lock.sequence = 0 ∧
    t.crash.hold = false ∧ t.crash.ownNumber = 0 ∧ t.window.bridge = .off ∧ t.window.move = none ∧
    t.window.heat = 300 ∧ t.window.reversals = 0 ∧ t.settings.writes = [] ∧ t.power.asleep = false ∧
    t.supply.value = min 255 (i.supplyMillivolt / 100) ∧ t.supply.discard = false ∧
    t.supply.sampleTimer = some 0 ∧
    t.pinch =
      { profile := (loadWindow (tornStore s)).profile, counter := none, stepCount := 0, blanking := true
        filtered := none, fallback := none, count := 0, mode := .none
        sectorAcc := Vector.replicate 32 ⟨0, 0⟩, binAcc := Vector.replicate 64 ⟨0, 0⟩, holding := [] } ∧
    t.window.knowledge = (loadWindow (tornStore s)).knowledge ∧
    t.window.pTop = (loadWindow (tornStore s)).pTop ∧
    t.window.p =
      (if (loadWindow (tornStore s)).knowledge = .unpositioned then 0
       else (loadWindow (tornStore s)).restPosition) ∧
    t.window.restPosition = (loadWindow (tornStore s)).restPosition ∧
    t.window.movingMarker = (loadWindow (tornStore s)).movingMarker ∧
    t.settings.options = loadOptions (tornStore s) ∧ t.settings.optionImage = loadOptions (tornStore s) ∧
    t.settings.store = tornStore s ∧ (∀ f : Fin 4, t.fobs[f] = loadFob (tornStore s) f) ∧
    (strapsValid i.straps = true →
      t.faults = { record := none, summary := 0 } ∧ t.roster.lastPlaced = some (ownState t) ∧
      t.roster.period = some 0 ∧
      t.link.tx =
        [fresh { kind := 8, sender := BitVec.ofFin i.straps.position, payload := encodeState (ownState t) }]) ∧
    (strapsValid i.straps = false →
      t.link.tx = [] ∧ t.roster.lastPlaced = none ∧ t.latch.phase = .idle ∧
      t.latch.supplyWait = none ∧
      t.faults =
        { record := some
            { kind := .config, d0 := BitVec.ofNat 8 i.straps.position.val
              d1 := (match i.straps.body with | .fiveDoor => 0 | .threeDoor => 1), d2 := 0, time := 0
              more := 0 }
          summary := 1 })) ∧
  (∀ st : Store,
    (let o := st.options;
      let good := st.optionsCheck = recordCheck (.optionSet o) ∧
        (o.relock = 0 ∨ (30 ≤ o.relock ∧ o.relock ≤ 120)) ∧ 20 ≤ o.sTh ∧ o.sTh ≤ 80 ∧
        ∀ k : Fin 6, -32 ≤ o.offsets[k] ∧ o.offsets[k] ≤ 31;
      (good → loadOptions st = o) ∧
      (¬ good →
        loadOptions st =
          { selective := true, driveAway := true, regulate := true, relock := 45, sTh := 38
            offsets := Vector.replicate 6 0 })) ∧
    (let w := st.window;
      let good := st.windowCheck = recordCheck (.windowRecord w) ∧
        (∀ t, w.pTop = some t → 400 ≤ t ∧ t ≤ 4000) ∧
        (w.knowledge = .positioned → ∃ t, w.pTop = some t ∧ w.restPosition ≤ t) ∧
        w.restPosition ≤ 4095 ∧
        ∀ k : Fin 32, 1 ≤ (w.profile[k]).n ∧ (w.profile[k]).n ≤ 65535 ∧ (w.profile[k]).learn ≤ 15;
      (good → w.movingMarker = false → loadWindow st = w) ∧
      (good → w.movingMarker = true →
        loadWindow st = { w with knowledge := .unpositioned, restPosition := 0 }) ∧
      (¬ good →
        loadWindow st =
          { knowledge := .unpositioned, pTop := none, restPosition := 0
            profile := Vector.replicate 32 { n := 1, learn := 0 }, movingMarker := false })) ∧
    (∀ f : Fin 4,
      let e := st.fobs[f]
      (st.fobsCheck[f] = recordCheck (.fobEntry f e) →
        loadFob st f =
          { enrolled := e.enrolled, key := e.key, counter := e.counter, lastTag := none
            candidate := none }) ∧
      (st.fobsCheck[f] ≠ recordCheck (.fobEntry f e) →
        loadFob st f =
          { enrolled := false, key := 0, counter := 0, lastTag := none, candidate := none })))

/-- R50, R53, R108, R176, R177: samples, the comparator and the brown-out. R50, R53: a supply below 7.0 V
ends or holds back a drive, and one of 7.0 V or more ends the wait. R108: a supply outside 9.0 to 16.0 V
starts the excursion timer of a run, and one inside stops it. What a station held in reset holds, the
contents of a torn record, and the direction of a drive held back are the model's choices
(notes/assumptions/18.md, 19.md, 33.md). -/
def Obligations.SupplyRows : Prop :=
  (∀ s : State,
     (∀ b : Bool,
       exec (.supplyComparatorChange b) s =
         .next { s with supply :=
           { s.supply with
             below := b
             brownOutTimer :=
               if b = true ∧ running s = true then some (s.supply.brownOutTimer.getD 0) else none } }) ∧
     (running s = true → s.supply.below = true →
       exec .brownOut s = .next (holdInReset s) ∧
       (holdInReset s).supply.heldInReset = true ∧ (holdInReset s).pending = s.pending ∧
       (holdInReset s).straps = s.straps ∧ (holdInReset s).settings.store = tornStore s ∧
       latchBridge (holdInReset s).latch = .off ∧ windowBridge (holdInReset s).window = .off ∧
       childOutput (holdInReset s).child = none ∧ releaseOutput (holdInReset s).release = false ∧
       lfBurst (holdInReset s) = none) ∧
     (running s = true → s.power.asleep = false →
       ∀ mv : Nat,
         (s.supply.discard = true →
           exec (.supplySample mv) s =
             .next (conclude { s with supply :=
               { s.supply with sampleTimer := some 0, discard := false } })) ∧
         (s.supply.discard = false → configFault s = true →
           exec (.supplySample mv) s =
             .next (conclude { s with supply :=
               { s.supply with sampleTimer := some 0, value := min 255 (mv / 100) } })) ∧
         (s.supply.discard = false → configFault s = false →
           let v := min 255 (mv / 100)
           exec (.supplySample mv) s =
             .next (conclude { s with
               supply := { s.supply with sampleTimer := some 0, value := v }
               latch := latchSupply (decide (70 ≤ v)) s.latch
               window := if s.straps.position = 4 then s.window else windowSupply v s.window })))) ∧
  (∀ (v : Nat) (w : Window),
     (w.bridge ≠ .drive → windowSupply v w = w) ∧
     (w.bridge = .drive → 90 ≤ v → v ≤ 160 → windowSupply v w = { w with excursion := none }) ∧
     (w.bridge = .drive → v < 90 ∨ 160 < v →
       windowSupply v w = { w with excursion := some (w.excursion.getD 0) })) ∧
  (∀ l : Latch,
     (l.phase = .drive →
       latchSupply false l = { l with phase := .idle, supplyWait := some 0, resume := .drive }) ∧
     (l.phase = .regulate →
       latchSupply false l = { l with phase := .idle, supplyWait := some 0, resume := .regulate }) ∧
     (l.phase = .overtravel →
       latchSupply false l = { l with phase := .idle, crashPursuit := false, supplyWait := none }) ∧
     (∀ t d, l.phase = .idle → l.supplyWait = some t → needDir l.target l.observed = some d →
       latchSupply true l = entered true d l ∧ latchSupply false l = l) ∧
     (l.phase = .drive ∨ l.phase = .regulate ∨ l.phase = .overtravel → latchSupply true l = l) ∧
     (l.phase = .brake ∨ l.phase = .pause ∨ l.phase = .failed →
       ∀ ok, latchSupply ok l = l))

/-- R23, R178 to R180: readiness and what it decides, the quiet timer, the settle timer, and the wakes by the
bus and by a switch input. R178, R179: sleep entry begins where the ten conditions of R178 hold with entry
phase none, and is abandoned where one of them ceases; that a telegram waiting for the dispatcher delays a
beginning and the sleep itself, but does not abandon an entry that runs, is the model's reading
(notes/assumptions/51.md). That the settle timer stops at the entry into SLEEP, that a wake is complete at
once, and when its STATEs are placed, are the model's choices (notes/assumptions/49.md, 13.md, 14.md,
15.md). -/
def Obligations.SleepRows : Prop :=
  ∀ s : State,
    (∀ i : SwitchInput,
      hasInput i s = true ↔
        (i = .childSwitch → s.straps.position = 2 ∨ s.straps.position = 3) ∧
        (i = .ownWindowSwitch → s.straps.position ≠ 4) ∧ (i = .packContact → isDriverStation s = true)) ∧
    (s.power.asleep = true → judgeSleep s = s) ∧
    (s.power.asleep = false → s.power.entry = .none →
      (restful s → s.link.rx = [] →
        judgeSleep s =
          { s with power :=
            { s.power with entry := .announcing, flagSent := false, sleepingFlag := true } }) ∧
      (¬ restful s ∨ s.link.rx ≠ [] → judgeSleep s = s)) ∧
    (s.power.asleep = false → s.power.entry ≠ .none →
      (restful s → judgeSleep s = s) ∧
      (¬ restful s →
        judgeSleep s =
          { s with power := { s.power with entry := .none, settle := none, sleepingFlag := false } })) ∧
    (active s = true → s.power.entry = .announcing →
      (s.power.flagSent = false →
        exec .quietTimerExpiry s =
          .next (conclude { s with power := { s.power with quiet := 2000000 } })) ∧
      (s.power.flagSent = true →
        exec .quietTimerExpiry s =
          .next (conclude { s with
            power := { s.power with quiet := 2000000, entry := .settling, settle := some 0 }
            roster := { s.roster with period := none } }))) ∧
    (active s = true → s.power.entry = .settling → s.link.tx = [] → s.link.rx = [] →
      exec .settleExpiry s =
        .next (conclude { s with
          power := { s.power with asleep := true, entry := .none, settle := none }
          supply := { s.supply with sampleTimer := none }
          link := { s.link with isolation := none }
          roster := { s.roster with period := none } })) ∧
    (operating s = true → s.power.asleep = true →
      exec .busWakeEdge s = .next (conclude (placeState (woken s))) ∧
      (∀ i : SwitchInput, hasInput i s = true →
        exec (.switchInputWake i) s =
          .next (conclude
            { placeState (woken s) with
              pins := { s.pins with wakeDebounce := some (i, 0) } })))

/-! ## Taken telegrams -/

/-- R17, R18, R29, R32: a discarded telegram leaves the queue and nothing else; a FAULT or a SERVICEACK is
evidence of its sender, and evidence of a node that was not PRESENT is a peer change at lock logic. That the
takings of the last 240 µs are remembered is the model's own (notes/assumptions/10.md), and so is what the
roster showed in the last 80 µs (notes/assumptions/54.md). -/
def Obligations.EvidenceRows : Prop :=
  ∀ (s : State) (n : Fin 8) (t : Nat),
    (takes s .discarded t → exec .dispatchDiscard s = .next (conclude (popped s))) ∧
    (takes s (.fault n) t → exec .faultTaken s = .next (conclude (evidence n (popped s)))) ∧
    (takes s (.serviceack n) t → exec .serviceackTaken s = .next (conclude (evidence n (popped s)))) ∧
    (let heard := changed n { s.roster.peers[n] with presence := .present, age := 0 } s;
      ((s.roster.peers[n]).presence = .present → evidence n s = heard) ∧
      ((s.roster.peers[n]).presence ≠ .present → evidence n s = driveAwayTest heard))

/-- R29, R30, R32, R40, R73, R92: a STATE taken: the record's presence, age and contents, the filters and
the last crash number where the JOINING marker is newly raised, the after-run where a front door is newly
open, the relock timer where a door of the expected set is newly open, and the drive-away test where
presence or contents changed. That what the roster showed in the last 80 µs is remembered is the model's own
(notes/assumptions/54.md). -/
def Obligations.StateTaken : Prop :=
  ∀ (s : State) (n : Fin 8) (c : StateContents),
    (∀ t, takes s (.state n c) t →
      exec .stateTaken s = .next (conclude (takeState n c (popped s)))) ∧
    (let old := s.roster.peers[n]
      let joins : Bool := c.joining &&
        (match old.lastState with | some o => !o.joining | none => true)
      let opens : Bool := c.doorOpen &&
        (match old.lastState with | some o => !o.doorOpen | none => true)
      let presence : Presence := if c.sleeping = true then .asleep else .present
      let s1 : State :=
        changed n
          { presence := presence, age := 0, lastState := some c
            lockreqFilter := if joins = true then none else old.lockreqFilter
            windowreqFilter := if joins = true then none else old.windowreqFilter }
          { s with
            vehicle :=
              if opens = true ∧ (n = 0 ∨ n = 1) then { s.vehicle with afterRun := none } else s.vehicle
            lock :=
              if opens = true ∧ expectedStation s.straps.body n.val = true then
                { s.lock with relock := none }
              else s.lock }
      let s2 := if joins = true then forgetCrash n s1 else s1;
      (old.presence = presence → old.lastState = some c → takeState n c s = s2) ∧
      (old.presence ≠ presence ∨ old.lastState ≠ some c → takeState n c s = driveAwayTest s2))

/-- R29, R32, R37, R39, R40, R73 to R75, R94, R107: a VEHICLE taken: speed, ignition and hold, the off-seen
flag, after-run, at the ignition OFF→ON event the end of crash hold and the arming of the drive-away lock,
and where speed or ignition changed the end of the relock timer under ON or CRANK, the drive-away test, and
at a change to CRANK the end of a MANUAL or AUTO move of the own switch or the pack. -/
def Obligations.VehicleTaken : Prop :=
  ∀ (s : State) (v : Byte) (i : Ignition),
    (∀ t, takes s (.vehicle v i) t →
      exec .vehicleTaken s = .next (conclude (takeVehicle v i (evidence 6 (popped s))))) ∧
    (let speed : Option Nat := if v = 255 then none else some v.toNat
      let runs := i = .on ∨ i = .crank
      let ran := s.vehicle.ignition = .on ∨ s.vehicle.ignition = .crank
      let starts := runs ∧ s.vehicle.offSeen = true
      let s1 : State :=
        { s with
          vehicle :=
            { speed := speed, ignition := i, hold := some 2000000
              offSeen := if i = .off then true else if runs then false else s.vehicle.offSeen
              afterRun := if runs then none else if ran then some 45000000 else s.vehicle.afterRun }
          crash := { s.crash with hold := if starts then false else s.crash.hold }
          lock :=
            { s.lock with
              driveAwayArmed := if starts then s.settings.options.driveAway else s.lock.driveAwayArmed } }
      let same := s.vehicle.speed = speed ∧ s.vehicle.ignition = i
      let u := driveAwayTest
        { s1 with lock := { s1.lock with relock := if runs then none else s1.lock.relock } };
      (same → takeVehicle v i s = s1) ∧
      (¬ same → i ≠ .crank ∨ s.vehicle.ignition = .crank → takeVehicle v i s = u) ∧
      (¬ same → i = .crank → s.vehicle.ignition ≠ .crank →
        (∀ m, u.window.move = some m → m.kind = .manual ∨ m.kind = .auto →
          m.source = .ownSwitch ∨ m.source = .pack →
          takeVehicle v i s = endMove .stop false true .none u) ∧
        ((∀ m, u.window.move = some m → ¬ ((m.kind = .manual ∨ m.kind = .auto) ∧
            (m.source = .ownSwitch ∨ m.source = .pack))) →
          takeVehicle v i s = u)))

/-- R18, R29, R41, R63, R83: the LOCKREQ rows: a copy of a telegram held in the duplicate filter is evidence
only, and any other is taken by lock logic or by the child safety unit with its sequence in the filter. -/
def Obligations.LockreqRows : Prop :=
  ∀ (s : State) (n : Fin 8) (t : Nat) (q number : Byte),
    let s1 := evidence n (popped s)
    let copy := ∃ life, (s1.roster.peers[n]).lockreqFilter = some ⟨q, life⟩
    let s2 := setPeer n { s1.roster.peers[n] with lockreqFilter := some ⟨q, 500000⟩ } s1
    (∀ cause, takes s (.central n .lock cause q number) t →
      (copy → exec .lockreqLock s = .next (conclude s1)) ∧
      (¬ copy →
        exec .lockreqLock s = .next (conclude (takeLock (.node n q) cause number false s2)))) ∧
    (∀ cause, takes s (.central n .deadlock cause q number) t →
      (copy → exec .lockreqDeadlock s = .next (conclude s1)) ∧
      (¬ copy → cause = .insideButton →
        exec .lockreqDeadlock s = .next (conclude (takeLock (.node n q) cause number false s2))) ∧
      (¬ copy → cause ≠ .insideButton →
        exec .lockreqDeadlock s =
          .next (conclude (takeDeadlock (.node n q) cause number false s2)))) ∧
    (∀ cause, takes s (.central n .unlock cause q number) t →
      (copy → exec .lockreqUnlock s = .next (conclude s1)) ∧
      (¬ copy →
        exec .lockreqUnlock s = .next (conclude (takeUnlock (.node n q) cause false s2)))) ∧
    (∀ on, takes s (.childRequest n on q) t →
      let c : Instr := if on = true then .lockreqChildOn else .lockreqChildOff
      (copy → exec c s = .next (conclude s1)) ∧
      (¬ copy → s.straps.position ≠ 2 → s.straps.position ≠ 3 → exec c s = .next (conclude s2)) ∧
      (¬ copy → s.straps.position = 2 ∨ s.straps.position = 3 →
        exec c s = .next (conclude { s2 with child := childRequest on s2.child })))

/-- R18, R29, R41, R103: the WINDOWREQ rows: a copy is evidence only, and any other reaches window drive of
an addressed station that has a window. R103: what the addressed window makes of a pack command: a refresh of
its running move, a refresh ignored under the spent hold, a new command, or a STOP. R104: a STOP leaves a
running brake to its end. That a refresh ignored under the spent hold does not end a global move, and that a
STOP in an end brake lets it run on, are the model's readings (notes/assumptions/41.md, 44.md). -/
def Obligations.WindowreqRows : Prop :=
  (∀ (s : State) (n : Fin 8) (set q : Byte) (a : WindowAction) (t : Nat),
     takes s (.windowreq n set a q) t →
     let c : Instr := match a with
       | .manualUp => .windowreqManualUp | .manualDown => .windowreqManualDown
       | .autoUp => .windowreqAutoUp | .autoDown => .windowreqAutoDown | .stop => .windowreqStop
     let s1 := evidence n (popped s)
     let copy := ∃ life, (s1.roster.peers[n]).windowreqFilter = some ⟨q, life⟩
     let s2 := setPeer n { s1.roster.peers[n] with windowreqFilter := some ⟨q, 500000⟩ } s1
     (copy → exec c s = .next (conclude s1)) ∧
     (¬ copy → set.getLsbD s.straps.position.val = false ∨ s.straps.position = 4 →
       exec c s = .next (conclude s2)) ∧
     (¬ copy → set.getLsbD s.straps.position.val = true → s.straps.position ≠ 4 →
       exec c s = .next (conclude (match a with
         | .manualUp => packManual .up s2
         | .manualDown => packManual .down s2
         | .autoUp => packAuto .up s2
         | .autoDown => packAuto .down s2
         | .stop => packStop s2)))) ∧
  (∀ (d : Dir) (s : State),
     (∀ m, s.window.move = some m → m.kind = .manual → m.source = .pack → m.dir = d →
       packManual d s =
         { s with window :=
           { s.window with
             move := some { m with lease := some 250000 }
             spentHold := match s.window.spentHold with
               | some h => if h.dir = d then some h else none
               | none => none } }) ∧
     (∀ r, s.window.spentHold = some ⟨d, r⟩ →
       (∀ m, s.window.move = some m → ¬ (m.kind = .manual ∧ m.source = .pack ∧ m.dir = d)) →
       packManual d s = { s with window := { s.window with spentHold := some ⟨d, 250000⟩ } }) ∧
     ((∀ h, s.window.spentHold = some h → h.dir ≠ d) →
       (∀ m, s.window.move = some m → ¬ (m.kind = .manual ∧ m.source = .pack ∧ m.dir = d)) →
       packManual d s =
         takeCommand ⟨.manual, d, .pack⟩
           { s with window := { s.window with spentHold := none } }) ∧
     packAuto d s =
       takeCommand ⟨.auto, d, .pack⟩ { s with window := { s.window with spentHold := none } } ∧
     (∀ m, s.window.move = some m → m.kind ≠ .reversal →
       packStop s =
         endMove .yieldingStop false false .none
           { s with window := { clearHalted s.window with spentHold := none } }) ∧
     (∀ m, s.window.move = some m → m.kind = .reversal →
       packStop s = { s with window := { clearHalted s.window with spentHold := none } }) ∧
     (s.window.move = none →
       packStop s = { s with window := { clearHalted s.window with spentHold := none } }))

/-- R16, R29, R92, R138, R149, R157, R162: a PINCH, a CRASH and a SEARCH taken from a peer. A CRASH with the
number already held is a copy; a PINCH ends an upward GLOBAL move with a brake-stop. A SEARCH joins an idle
station, or one whose own SEARCH is pending and is then withdrawn, and it enters the phase of its age: IN_FLIGHT
below 18 ms, COLLECTING below 120 ms, and at once the decision above. How a search joined late holds its slots,
and that a SEARCH in an attempt stays queued, are the model's choices (notes/assumptions/31.md, 52.md). -/
def Obligations.PinchCrashSearchRows : Prop :=
  (∀ (s : State) (n : Fin 8) (t : Nat),
    let s1 := evidence n (popped s)
    (takes s (.pinch n) t →
      ((∀ m, s1.window.move = some m → ¬ (m.kind = .global ∧ m.dir = .up)) →
        exec .pinchTaken s = .next (conclude s1)) ∧
      (∀ m, s1.window.move = some m → m.kind = .global → m.dir = .up → hasWindow s = true →
        exec .pinchTaken s = .next (conclude (endMove .brakeStop false false .none s1)))) ∧
    (∀ (x : Byte) (h : n.val < 5), takes s (.crash n x) t →
      (s1.crash.lastNumber[n.val] = x → exec .crashTaken s = .next (conclude s1)) ∧
      (s1.crash.lastNumber[n.val] ≠ x →
        exec .crashTaken s =
          .next (conclude (crashEntry { s1 with crash :=
            { s1.crash with lastNumber := s1.crash.lastNumber.set n.val x h } })))) ∧
    (∀ (number : Byte) (slots : BitVec 6), takes s (.search n number slots) t →
      (s1.search.phase = .idle →
        exec .searchTaken s = .next (conclude (joinSearch false number slots t s1))) ∧
      (s1.search.phase = .pending →
        exec .searchTaken s =
          .next (conclude (joinSearch true number slots t
            { s1 with link :=
              { s1.link with
                tx := s1.link.tx.filter (fun e => e.telegram.kind != 5 || e.inAttempt) } }))) ∧
      (s1.search.phase = .inFlight ∨ s1.search.phase = .collecting →
        exec .searchTaken s = .next (conclude s1)))) ∧
  (∀ (keep : Bool) (number : Byte) (slots : BitVec 6) (t0 : Nat) (s : State),
    let age := s.now - t0
    let joined (phase : SearchPhase) : State :=
      { s with search :=
        { s.search with
          number := number, slots := slots, t0 := some t0, verdicts := Vector.replicate 4 none
          coilOpen := false, touchZone := if keep = true then s.search.touchZone else none
          wakeWait := .stopped, awaited := false, driving := none, phase := phase
          nextSlot := ((List.finRange 6).filter fun k => decide (1000 + 3000 * k.val < age)).length } }
    (age < 18000 → joinSearch keep number slots t0 s = paused (joined .inFlight)) ∧
    (18000 ≤ age → age < 120000 → joinSearch keep number slots t0 s = joined .collecting) ∧
    (120000 ≤ age → joinSearch keep number slots t0 s = endCollection (joined .collecting)))

/-- R172 to R174: the SERVICE rows. Another station's SERVICE is evidence only; an own one is tested in
order and answered or applied. R172: the arguments that are bad: a fob number above 3, an option set with a
value out of its range, and FORGET_WINDOW at station 4. R173 and section 1.9: the fob entry and the option set
that the arguments spell, and the SERVICEACK that carries an answer. -/
def Obligations.ServiceRows : Prop :=
  (∀ (args : List Byte) (s : State),
    (badArgument .enrol args s = true ↔ 3 < (args.getD 0 0).toNat) ∧
    (badArgument .forgetWindow args s = true ↔ s.straps.position = 4) ∧
    badArgument .clearfault args s = false) ∧
  (∀ (flags mode relock sTh : Byte) (offset : Fin 6 → Byte) (s : State),
    let args := [flags, mode, relock, sTh] ++ (List.finRange 6).map offset
    (badArgument .option args s = true ↔
      3 < flags.toNat ∨ 1 < mode.toNat ∨ (relock ≠ 0 ∧ (relock.toNat < 30 ∨ 120 < relock.toNat)) ∨
        sTh.toNat < 20 ∨ 80 < sTh.toNat ∨ ∃ k, (offset k).toInt < -32 ∨ 31 < (offset k).toInt) ∧
    decodeOption args =
      some
        { selective := flags.getLsbD 0, driveAway := flags.getLsbD 1, regulate := decide (mode = 1)
          relock := relock.toNat, sTh := sTh.toNat
          offsets := Vector.ofFn fun k => (offset k).toInt }) ∧
  (∀ f k3 k2 k1 k0 c2 c1 c0 : Byte,
    enrolEntry [f, k3, k2, k1, k0, c2, c1, c0] =
      { enrolled := true, key := k3 ++ k2 ++ k1 ++ k0, counter := c2 ++ c1 ++ c0, lastTag := none
        candidate := none }) ∧
  (∀ (k : Subtype) (result : Byte) (s : State),
    placeAnswer k result s =
      (place
        { kind := 11, sender := BitVec.ofFin s.straps.position
          payload := [(match k with
            | .enrol => 1 | .option => 2 | .clearfault => 3 | .forgetWindow => 4), result] } s).1) ∧
  ∀ (s : State) (k : Subtype) (target : Byte) (args : List Byte) (t : Nat),
    takes s (.service k target args) t →
    let c : Instr := match k with
      | .enrol => .serviceEnrol | .option => .serviceOption
      | .clearfault => .serviceClearfault | .forgetWindow => .serviceForgetWindow
    let s1 := evidence 7 (popped s)
    let ready := s1.settings.awaited = none ∧ s1.vehicle.ignition = .on ∧ s1.vehicle.speed = some 0 ∧
      s1.latch.target = .unlocked ∧
      (k = .forgetWindow → s1.window.move = none ∧ s1.window.bridge = .off)
    (target.toNat ≠ s.straps.position.val → exec c s = .next (conclude s1)) ∧
    (target.toNat = s.straps.position.val →
      (badArgument k args s1 = true →
        exec c s = .next (conclude (placeAnswer k 4 s1))) ∧
      (badArgument k args s1 = false → ¬ ready →
        exec c s = .next (conclude (placeAnswer k 2 s1))) ∧
      (badArgument k args s1 = false → ready →
        exec c s = .next (conclude (match k with
          | .enrol =>
            let f := capFin 3 (args.getD 0 0).toNat
            let s2 := markRecord (.fobEntry f)
              { s1 with fobs := s1.fobs.set f.val (enrolEntry args) f.isLt }
            { s2 with settings :=
              { s2.settings with
                awaited := some { subtype := .enrol, record := .fobEntry f, started := false } } }
          | .option =>
            match decodeOption args with
            | some o =>
              let s2 := markRecord .optionSet
                { s1 with settings := { s1.settings with optionImage := o } }
              { s2 with settings :=
                { s2.settings with
                  awaited := some { subtype := .option, record := .optionSet, started := false } } }
            | none => s1
          | .clearfault =>
            placeAnswer .clearfault 1
              { s1 with
                faults := { record := none, summary := 0 }
                touch :=
                  { s1.touch with
                    electrodes := vmap (fun e => { e with overflow := false }) s1.touch.electrodes } }
          | .forgetWindow =>
            let s2 := markRecord .windowRecord
              { s1 with
                window := { s1.window with knowledge := .unpositioned, pTop := none }
                pinch := { s1.pinch with profile := Vector.replicate 32 { n := 1, learn := 0 } } }
            { s2 with settings :=
              { s2.settings with
                awaited := some
                  { subtype := .forgetWindow, record := .windowRecord, started := false } } }))))

/-- R29, R167, R169 to R171: the FOBREPORT rows, and what the fob check unit takes from either origin. A
report that fails the code check changes nothing (from the bus, nothing but the evidence); a verified one
updates its entry, and an accepted one is marked and dispatched. R169: the code is a CRC-32 preset to the
entry's key and fed, bit by bit, with the fob number and command byte, the counter, the search number and the
readings. -/
def Obligations.FobRows : Prop :=
  (∀ (s : State) (n : Fin 8) (r : FobReport) (t : Nat), takes s (.fobReport n r) t →
    let c : Instr := match r.command with
      | .lock => .fobLock | .unlock => .fobUnlock | .tailgate => .fobTailgate
      | .closeAll => .fobCloseAll | .openAll => .fobOpenAll | .searchReply => .fobSearchReply
    exec c s = .next (conclude (takeReport false r (evidence n (popped s))))) ∧
  (∀ (own : Bool) (r : FobReport) (s : State),
    let e := s.fobs[r.fob]
    let x := counterWindow r e
    let counted : State := { s with fobs := s.fobs.set r.fob.val (countedEntry x r e) r.fob.isLt }
    (e.enrolled = false ∨ r.tag ≠ fobCode e.key r → takeReport own r s = s) ∧
    (e.enrolled = true → r.tag = fobCode e.key r →
      (x ≠ .accepted → takeReport own r s = counted) ∧
      (x = .accepted →
        takeReport own r s = dispatchReport own r (markRecord (.fobEntry r.fob) counted)))) ∧
  (∀ (key : BitVec 32) (r : FobReport),
    fobCode key r =
      crc32 key
        (([r.fobByte, r.counter.extractLsb' 16 8, r.counter.extractLsb' 8 8, r.counter.extractLsb' 0 8,
            r.search] ++ r.readings).flatMap bitsMsb)) ∧
  (∀ (key : BitVec 32) (bits : List Bool) (b : Bool),
    crc32 key [] = key ∧
    crc32 key (bits ++ [b]) =
      if (crc32 key bits).msb = b then crc32 key bits <<< 1 else (crc32 key bits <<< 1) ^^^ 0x04C11DB7)

/-- R170: the counter window of a verified report, test by test, and the entry afterwards. -/
def Obligations.FobCounterWindow : Prop :=
  ∀ (r : FobReport) (e : Fob),
    let diff : Int := (r.counter.toNat : Int) - (e.counter.toNat : Int)
    let duplicate := diff = 0 ∧ e.lastTag = some r.tag
    let resync := ∃ k, e.candidate = some k ∧
      (r.counter.toNat = k.toNat + 1 ∨ r.counter.toNat = k.toNat + 2)
    let x := counterWindow r e
    (duplicate → x = .duplicate ∧ countedEntry x r e = e) ∧
    (¬ duplicate → resync ∨ (1 ≤ diff ∧ diff ≤ 32) →
      x = .accepted ∧
        countedEntry x r e =
          { e with counter := r.counter, lastTag := some r.tag, candidate := none }) ∧
    (¬ duplicate → ¬ resync → 33 ≤ diff → diff ≤ 4096 →
      x = .candidate ∧ countedEntry x r e = { e with candidate := some r.counter }) ∧
    (¬ duplicate → ¬ resync → diff < 1 ∨ 4096 < diff →
      x = .rejected ∧ countedEntry x r e = { e with candidate := none })

/-- R70, R71, R79, R80, R132, R137, R163, R171: what an accepted report reaches. R71: the selective rule holds
an UNLOCK back at another station than the driver's, unless the driver station is not to be relied on or is
unlocked. -/
def Obligations.ReportDispatch : Prop :=
  (∀ (own : Bool) (r : FobReport) (s : State),
    let heard := own = true ∨ (s.link.state ≠ .isolated ∧ s.link.state ≠ .stuck)
    (r.command = .lock →
      (heard → s.lock.deadlockWindow = none →
        dispatchReport own r s =
          endGlobal .down (takeLock (.fob r.fob r.counter) .fobButton 0 false s)) ∧
      (heard → s.lock.deadlockWindow ≠ none →
        dispatchReport own r s =
          endGlobal .down (takeDeadlock (.fob r.fob r.counter) .fobButton 0 false s)) ∧
      (¬ heard → dispatchReport own r s = endGlobal .down s)) ∧
    (r.command = .unlock →
      (heard → heldBack s = false →
        dispatchReport own r s =
          endGlobal .up (takeUnlock (.fob r.fob r.counter) .fobButton false s)) ∧
      (¬ heard ∨ heldBack s = true → dispatchReport own r s = endGlobal .up s)) ∧
    (r.command = .tailgate →
      (s.straps.position = 4 → dispatchReport own r s = releaseRequest s) ∧
      (s.straps.position ≠ 4 → dispatchReport own r s = s)) ∧
    (r.command = .closeAll → dispatchReport own r s = globalFrame .up s) ∧
    (r.command = .openAll → dispatchReport own r s = globalFrame .down s) ∧
    (r.command = .searchReply →
      (s.search.phase = .inFlight ∨ s.search.phase = .collecting → r.search = s.search.number →
        dispatchReport own r s =
          { s with search :=
            { s.search with
              verdicts :=
                s.search.verdicts.set r.fob.val (some (verdictOfReadings s r.readings))
                  r.fob.isLt } }) ∧
      (s.search.phase = .idle ∨ s.search.phase = .pending ∨ r.search ≠ s.search.number →
        dispatchReport own r s = s))) ∧
  (∀ s : State,
    let driver : Fin 8 := match s.straps.driveSide with | .left => 0 | .right => 1
    let p := s.roster.peers[driver]
    heldBack s = true ↔
      s.settings.options.selective = true ∧ s.straps.position ≠ driver ∧
        ((p.presence = .present ∧ ∃ c, p.lastState = some c ∧ c.target ≠ .unlocked) ∨
         (p.presence = .asleep ∧ ∀ c, p.lastState = some c → c.target ≠ .unlocked))) ∧
  (∀ (d : Dir) (s : State),
    (∀ m, hasWindow s = true → s.window.move = some m → m.kind = .global → m.dir = d →
      endGlobal d s = endMove .brakeStop false false .none s) ∧
    (hasWindow s = false ∨ (∀ m, s.window.move = some m → ¬ (m.kind = .global ∧ m.dir = d)) →
      endGlobal d s = s))

/-- R132 to R135, R140: a close frame and an open frame at a window: ignored under the global spent hold, a
renewal, a refusal, or a start. R134: a window is found already closed or already open, and then the global
spent hold is set and no move starts, where no move runs and it stands within 16 steps of that end. That HALTED is cleared at a window found already there is the model's
reading (notes/assumptions/26.md). -/
def Obligations.GlobalFrame : Prop :=
  (∀ w : Window,
    (alreadyThere .up w = true ↔
      w.move = none ∧ w.knowledge = .positioned ∧ ∃ t, w.pTop = some t ∧ t ≤ w.p + 16) ∧
    (alreadyThere .down w = true ↔
      w.move = none ∧ (w.knowledge = .bottomKnown ∨ w.knowledge = .positioned) ∧ w.p ≤ 16)) ∧
  (∀ (d : Dir) (s : State), hasWindow s = false → globalFrame d s = s) ∧
  ∀ (d : Dir) (s : State), hasWindow s = true →
    let conditions := s.pins.doorOpen = false ∧
      (d = .up → s.latch.target ≠ .unlocked ∧ s.crash.hold = false ∧ s.window.reversals < 2 ∧
        s.window.heat < 1000) ∧
      (d = .down → s.latch.target = .unlocked)
    let s1 : State := { s with window := { s.window with globalSpent := none } }
    (∀ r, s.window.globalSpent = some ⟨d, r⟩ →
      globalFrame d s = { s with window := { s.window with globalSpent := some ⟨d, 600000⟩ } }) ∧
    ((∀ h, s.window.globalSpent = some h → h.dir ≠ d) →
      (∀ m, s.window.move = some m → m.kind = .global → m.dir = d →
        (conditions →
          globalFrame d s =
            { s1 with window := { s1.window with move := some { m with lease := some 600000 } } }) ∧
        (¬ conditions →
          globalFrame d s = endMove .brakeStop false false .globalRefused s1)) ∧
      ((∀ m, s.window.move = some m → ¬ (m.kind = .global ∧ m.dir = d)) →
        (¬ conditions →
          (s.window.move = none →
            globalFrame d s = { s1 with window := { s1.window with stopReason := .globalRefused } }) ∧
          (s.window.move ≠ none → globalFrame d s = s1)) ∧
        (conditions →
          let s2 : State := { s1 with window := clearHalted s1.window }
          (permitted ⟨.global, d, .fob⟩ s2 = true → alreadyThere d s2.window = false →
            globalFrame d s =
              takeMove { kind := .global, dir := d, source := .fob, lease := some 600000
                         target := if d = .up then .top else .bottom } s2) ∧
          (permitted ⟨.global, d, .fob⟩ s2 = true → alreadyThere d s2.window = true →
            globalFrame d s =
              { s2 with window := { s2.window with globalSpent := some ⟨d, 600000⟩ } }) ∧
          (permitted ⟨.global, d, .fob⟩ s2 = false →
            (s.window.move = none →
              globalFrame d s =
                { s2 with window := { s2.window with stopReason := .globalRefused } }) ∧
            (s.window.move ≠ none → globalFrame d s = s2)))))

/-- R166, R167: the RF frame receiver's rows, and the relay of a complete frame, which the own fob check unit
takes with origin OWN_LINE (`Obligations.FobRows` says how). R167: the checks as the bytes arrive: the search
number, the fob number and command byte, which must agree with it, and the length of 10 or 16 bytes that this
byte fixes; and the report that a complete frame spells. That a byte is one command is the model's choice
(notes/assumptions/35.md). -/
def Obligations.RfRows : Prop :=
  (∀ bytes : List Byte,
    let number := bytes.getD 1 0
    let third := (bytes.getD 2 0).toNat
    let valid := number = 0 ∨ ∃ st c : Nat, st ≤ 4 ∧ 1 ≤ c ∧ c ≤ 31 ∧ number.toNat = st * 32 + c
    let button := number = 0 ∧ third / 16 % 4 = 0 ∧ 1 ≤ third % 16 ∧ third % 16 ≤ 5
    let reply := number ≠ 0 ∧ third / 16 % 4 = 0 ∧ third % 16 = 6
    (bytes.length ≤ 1 → checkFrame bytes = .goesOn) ∧
    (bytes.length = 2 →
      (valid → checkFrame bytes = .goesOn) ∧ (¬ valid → checkFrame bytes = .dropped)) ∧
    (3 ≤ bytes.length →
      (button → bytes.length < 10 → checkFrame bytes = .goesOn) ∧
      (button → 10 ≤ bytes.length → checkFrame bytes = .complete) ∧
      (reply → bytes.length < 16 → checkFrame bytes = .goesOn) ∧
      (reply → 16 ≤ bytes.length → checkFrame bytes = .complete) ∧
      (¬ button → ¬ reply → checkFrame bytes = .dropped))) ∧
  (∀ x b c2 c1 c0 t3 t2 t1 t0 : Byte, b.toNat / 16 % 4 = 0 →
    let report (command : FobCommand) (readings : List Byte) : FobReport :=
      { search := x, fob := ⟨b.toNat / 64, by have := b.isLt; omega⟩, command := command, fobByte := b
        counter := c2 ++ c1 ++ c0, readings := readings, tag := t3 ++ t2 ++ t1 ++ t0 }
    (∀ k : Fin 5, b.toNat % 16 = k.val + 1 → x = 0 →
      decodeFobReport [x, b, c2, c1, c0, t3, t2, t1, t0] =
        some (report (match k with
          | 0 => .unlock | 1 => .lock | 2 => .tailgate | 3 => .closeAll | 4 => .openAll) [])) ∧
    (∀ r0 r1 r2 r3 r4 r5 : Byte, b.toNat % 16 = 6 → x ≠ 0 → numbered x →
      decodeFobReport [x, b, c2, c1, c0, r0, r1, r2, r3, r4, r5, t3, t2, t1, t0] =
        some (report .searchReply [r0, r1, r2, r3, r4, r5]))) ∧
  ∀ s : State, operating s = true → s.straps.rfAttached = true →
    (∀ (v : Byte) (bad : Bool),
      (s.rf.phase = .idle → v = 0x5A → bad = false →
        exec (.rfByte v bad) s =
          .next (conclude
            { wake s with rf := { phase := .assembling, bytes := [0x5A], gap := 0 } })) ∧
      (s.rf.phase = .idle → v ≠ 0x5A ∨ bad = true →
        exec (.rfByte v bad) s = .next (conclude s)) ∧
      (s.rf.phase = .quiet →
        exec (.rfByte v bad) s = .next (conclude { s with rf := { s.rf with gap := 0 } })) ∧
      (s.rf.phase = .assembling → bad = true ∨ checkFrame (s.rf.bytes ++ [v]) = .dropped →
        exec (.rfByte v bad) s =
          .next (conclude { s with rf := { phase := .quiet, bytes := [], gap := 0 } })) ∧
      (s.rf.phase = .assembling → bad = false → checkFrame (s.rf.bytes ++ [v]) = .goesOn →
        exec (.rfByte v bad) s =
          .next (conclude
            { s with rf := { phase := .assembling, bytes := s.rf.bytes ++ [v], gap := 0 } })) ∧
      (∀ r, s.rf.phase = .assembling → bad = false →
        checkFrame (s.rf.bytes ++ [v]) = .complete →
        decodeFobReport ((s.rf.bytes ++ [v]).drop 1) = some r →
        let s1 : State := { s with rf := { phase := .idle, bytes := [], gap := 0 } }
        exec (.rfByte v bad) s =
          .next (conclude (takeReport true r
            (place { kind := 6, sender := BitVec.ofFin s.straps.position
                     payload := (s.rf.bytes ++ [v]).drop 1 } s1).1)))) ∧
    (s.rf.phase = .assembling →
      exec .rfGapTimeout s =
        .next (conclude { s with rf := { phase := .quiet, bytes := [], gap := 0 } })) ∧
    (s.rf.phase = .quiet →
      exec .rfGapTimeout s =
        .next (conclude { s with rf := { phase := .idle, bytes := [], gap := 0 } }))

/-- R31 to R34, R38, R40 to R42, R92: the roster's timer rows. R33, R100: the contents of the own STATE,
with the window class and percent. R34, R179: placing it restarts the STATE period, except in SETTLING. That
what the roster showed in the last 80 µs is remembered is the model's own (notes/assumptions/54.md). -/
def Obligations.RosterTimerRows : Prop :=
  (∀ s : State, active s = true →
    (∀ n : Fin 8, (s.roster.peers[n]).presence = .present →
      exec (.peerLost n) s =
        .next (conclude (driveAwayTest (forgetCrash n
          (changed n
            { s.roster.peers[n] with
              presence := .lost, lockreqFilter := none, windowreqFilter := none } s))))) ∧
    (s.roster.period ≠ none → exec .statePeriodExpiry s = .next (conclude (placeState s))) ∧
    (s.vehicle.hold ≠ none →
      exec .vehicleHoldExpiry s =
        .next (conclude
          (if s.vehicle.speed = none ∧ s.vehicle.ignition = .off then
            { s with vehicle := { s.vehicle with hold := none } }
           else
             driveAwayTest
               { s with vehicle := { s.vehicle with speed := none, ignition := .off, hold := none } }))) ∧
    (s.vehicle.afterRun ≠ none →
      exec .afterRunExpiry s =
        .next (conclude { s with vehicle := { s.vehicle with afterRun := none } })) ∧
    (∀ n : Fin 8,
      ((s.roster.peers[n]).lockreqFilter ≠ none →
        exec (.filterLifeExpiry n .lockreq) s =
          .next (conclude (setPeer n { s.roster.peers[n] with lockreqFilter := none } s))) ∧
      ((s.roster.peers[n]).windowreqFilter ≠ none →
        exec (.filterLifeExpiry n .windowreq) s =
          .next (conclude (setPeer n { s.roster.peers[n] with windowreqFilter := none } s))))) ∧
  (∀ s : State,
    let rear := s.straps.position = 2 ∨ s.straps.position = 3
    let tail := s.straps.position = 4
    let w := s.window
    let c := ownState s
    placeState s =
      (place { kind := 8, sender := BitVec.ofFin s.straps.position, payload := encodeState c }
        { s with roster :=
          { s.roster with
            lastPlaced := some c
            period := if s.power.entry = .settling then none else some 0 } }).1 ∧
    c.doorOpen = s.pins.doorOpen ∧ c.sleeping = s.power.sleepingFlag ∧ c.crashHold = s.crash.hold ∧
    (c.childOn = true ↔ rear ∧ s.child.position = true) ∧
    (c.joining = true ↔ s.link.state = .joining) ∧ c.observed = s.latch.observed ∧
    c.target = s.latch.target ∧ c.summary = s.faults.summary ∧ c.verdict = s.search.lastVerdict ∧
    c.refusal = s.lock.refusal ∧
    (c.source, c.sequence) =
      (match s.lock.source with
        | .none => (255, 0)
        | .node n q => (BitVec.ofNat 8 n.val, q)
        | .fob f k => (BitVec.ofNat 8 (8 + f.val), k.extractLsb' 0 8)
        | .autoRelock => (12, 0)
        | .driveAway => (13, 0)) ∧
    (tail → c.windowClass = .absent ∧ c.knowledge = .unpositioned ∧ c.percent = 255) ∧
    (¬ tail →
      c.knowledge = w.knowledge ∧
      (∀ t, w.knowledge = .positioned → w.pTop = some t →
        c.percent = BitVec.ofNat 8 ((w.p * 100 + t / 2) / t)) ∧
      (w.knowledge ≠ .positioned → c.percent = 255) ∧
      c.windowClass =
        (match w.move with
          | some m =>
            if m.kind = .reversal then .reversing
            else (match m.dir with | .up => .movingUp | .down => .movingDown)
          | none =>
            (match w.stopReason with
              | .none => .stopped | .halted => .halted | .supply => .supplyPause
              | .globalRefused => .globalRefused))))

/-! ## The latch -/

/-- R45: a LOCKED or DEADLOCKED write in crash hold, and a DEADLOCKED write with the own door open, leave
the record as it is; every other write is taken under R46; a crash unlock write at a crash pursuit changes
nothing. R46: the table of a taken write, phase by phase. That a write equal to the observed position lets a
drive go on, and that a crash pursuit becomes ordinary at the write, are the model's choices
(notes/assumptions/19.md, 20.md), and so are the overcurrent filter that a resumed drive keeps from
OVERTRAVEL (notes/assumptions/42.md), and the filters and the chop period that a started pursuit sets anew
(notes/assumptions/39.md, 50.md). -/
def Obligations.LatchWrites : Prop :=
  (∀ (hold door ok : Bool) (t : LatchTarget) (l : Latch),
     (hold = true → t ≠ .unlocked → latchWriteGated hold door ok t l = l) ∧
     (door = true → t = .deadlocked → latchWriteGated hold door ok t l = l) ∧
     ((hold = false ∨ t = .unlocked) → (door = false ∨ t ≠ .deadlocked) →
       latchWriteGated hold door ok t l = latchWrite ok t l) ∧
     (l.crashPursuit = true → crashUnlock ok l = l)) ∧
  (∀ o : LatchPos,
     needDir .unlocked o = (if o = .unlocked then none else some .back) ∧
     needDir .locked o =
       (if o = .locked then none else if o = .deadlocked then some .back else some .forward) ∧
     needDir .deadlocked o = (if o = .deadlocked then none else some .forward)) ∧
  (∀ (ok : Bool) (t : LatchTarget) (l : Latch),
     let isNew := t ≠ l.target
     let opposite := ∃ d r, needDir t l.observed = some d ∧ l.direction = some r ∧ r ≠ d
     let aimed : Latch := { l with target := t, crashPursuit := false, regLimit := .normal }
     let braked : Latch := { aimed with phase := .brake, phaseTimer := 0, brakeForPassed := false }
     (l.phase = .idle → l.supplyWait = none →
       (isNew ∨ targetPos t ≠ l.observed → latchWrite ok t l = pursuit ok t false l) ∧
       (¬ isNew → targetPos t = l.observed → latchWrite ok t l = l)) ∧
     (∀ w, l.phase = .idle → l.supplyWait = some w →
       (¬ isNew → latchWrite ok t l = l) ∧
       (isNew → opposite → latchWrite ok t l = pursuit ok t false l) ∧
       (isNew → targetPos t = l.observed →
         latchWrite ok t l = { aimed with phase := .idle, supplyWait := none }) ∧
       (isNew → ¬ opposite → targetPos t ≠ l.observed → latchWrite ok t l = aimed)) ∧
     (l.phase = .drive ∨ l.phase = .regulate →
       (¬ isNew → latchWrite ok t l = l) ∧
       (isNew → opposite → latchWrite ok t l = braked) ∧
       (isNew → ¬ opposite → latchWrite ok t l = aimed)) ∧
     (l.phase = .overtravel →
       (¬ isNew → latchWrite ok t l = l) ∧
       (isNew → opposite → latchWrite ok t l = braked) ∧
       (isNew → targetPos t = l.observed → latchWrite ok t l = aimed) ∧
       (isNew → ¬ opposite → targetPos t ≠ l.observed →
         latchWrite ok t l =
           { aimed with phase := (match l.resume with | .drive => .drive | .regulate => .regulate) })) ∧
     (l.phase = .brake →
       (¬ isNew → latchWrite ok t l = l) ∧
       (isNew → latchWrite ok t l = { aimed with brakeForPassed := false })) ∧
     (l.phase = .pause →
       (¬ isNew → latchWrite ok t l = l) ∧ (isNew → latchWrite ok t l = pursuit ok t false l)) ∧
     (l.phase = .failed → latchWrite ok t l = pursuit ok t false l))

/-- R54 to R56: the table of a crash unlock write, row by row. A phase that is already chopped keeps its 2 kHz
period, which counts from the switching on of the bridge by the model's choice (notes/assumptions/50.md). -/
def Obligations.CrashUnlockTable : Prop :=
  ∀ (ok : Bool) (l : Latch), l.crashPursuit = false →
    let aimed : Latch := { l with target := .unlocked, crashPursuit := true, regLimit := .crash }
    let braked : Latch := { aimed with phase := .brake, phaseTimer := 0, brakeForPassed := false }
    let inPlace : Latch :=
      { chopped l with
        target := .unlocked, crashPursuit := true, regLimit := .crash
        regElapsed := 0, resume := .regulate, phase := .regulate, phaseTimer := 0 }
    (l.phase = .idle → l.supplyWait = none → l.observed = .unlocked → crashUnlock ok l = l) ∧
    ((l.phase = .idle ∧ (l.supplyWait ≠ none ∨ l.observed ≠ .unlocked)) ∨ l.phase = .pause ∨
        l.phase = .failed →
      crashUnlock ok l = pursuit ok .unlocked true l) ∧
    (l.phase = .drive ∨ l.phase = .regulate → l.direction = some .back → crashUnlock ok l = inPlace) ∧
    (l.phase = .drive ∨ l.phase = .regulate ∨ l.phase = .overtravel →
      l.direction ≠ some .back → crashUnlock ok l = braked) ∧
    (l.phase = .overtravel → l.direction = some .back → l.target = .unlocked →
      crashUnlock ok l = { chopped l with crashPursuit := true, resume := .regulate }) ∧
    (l.phase = .overtravel → l.direction = some .back → l.target ≠ .unlocked →
      crashUnlock ok l = inPlace) ∧
    (l.phase = .brake → crashUnlock ok l = { aimed with brakeForPassed := false })

/-- R43, R48, R49, R50, R52, R57: the latch switches, and what a new observed position does in each phase.
The resume phase of OVERTRAVEL, the field that tells the two brakes apart, and that the overcurrent filter of
DRIVE goes on in OVERTRAVEL are the model's choices (notes/assumptions/21.md, 22.md, 42.md). -/
def Obligations.LatchSwitchRow : Prop :=
  (∀ (a b : Bool) (s : State), active s = true → s.pins.wakeDebounce = none →
    exec (.latchSwitchChange a b) s =
      .next (conclude { s with latch :=
        (latchObserve s.crash.hold s.pins.doorOpen (decide (70 ≤ s.supply.value))
          (match a, b with
            | false, false => .unlocked | true, false => .locked
            | true, true => .deadlocked | false, true => .unknown) s.latch) })) ∧
  (∀ (hold door ok : Bool) (o : LatchPos) (l : Latch),
    let l1 : Latch := { l with observed := o }
    let u := latchObserve hold door ok o l
    (o = l.observed → u = l) ∧
    (o ≠ l.observed →
      (l.phase = .drive ∨ l.phase = .regulate →
        (o = targetPos l.target →
          u = { l1 with phase := .overtravel, phaseTimer := 0,
                        resume := if l.phase = .regulate then .regulate else .drive }) ∧
        (l.target = .locked → l.direction = some .forward → o = .deadlocked →
          u = { l1 with phase := .brake, phaseTimer := 0, brakeForPassed := true,
                        resume := if l.phase = .regulate then .regulate else .drive }) ∧
        (l.target = .locked → l.direction = some .back → o = .unlocked →
          u = { l1 with phase := .brake, phaseTimer := 0, brakeForPassed := true,
                        resume := if l.phase = .regulate then .regulate else .drive }) ∧
        (o ≠ targetPos l.target → l.target ≠ .locked ∨ o = .unknown → u = l1)) ∧
      (l.phase = .overtravel → o ≠ targetPos l.target →
        u = latchObserve hold door ok o
          { l with phase := .idle, crashPursuit := false, supplyWait := none }) ∧
      (l.phase = .brake → u = l1) ∧
      (l.phase = .pause →
        (o = targetPos l.target →
          u = { l1 with phase := .idle, crashPursuit := false, supplyWait := none }) ∧
        (o ≠ targetPos l.target → u = l1)) ∧
      (∀ w, l.phase = .idle → l.supplyWait = some w →
        (o = targetPos l.target →
          u = { l1 with phase := .idle, crashPursuit := false, supplyWait := none }) ∧
        (o ≠ targetPos l.target → u = l1)) ∧
      ((l.phase = .idle ∧ l.supplyWait = none) ∨ l.phase = .failed →
        (o = .unknown → u = l1) ∧
        (o = .unlocked → u = { l1 with target := .unlocked, phase := .idle, crashPursuit := false }) ∧
        (o = .locked → hold = false →
          u = { l1 with target := .locked, phase := .idle, crashPursuit := false }) ∧
        (o = .deadlocked → hold = false → door = false →
          u = { l1 with target := .deadlocked, phase := .idle, crashPursuit := false }) ∧
        (o = .locked ∨ o = .deadlocked → hold = true → u = pursuit ok .unlocked true l1) ∧
        (o = .deadlocked → hold = false → door = true → u = pursuit ok .unlocked false l1))))

/-- R46, R48 to R53, R55, R59: the expiries of latch drive: the end of overtravel by time and by current, the
end of the brake for a passed target and of the brake for a new write, the pulse limit of the first and the
second attempt, by expiry and at the end of a brake (R49), the pause, the supply wait, the regulation limit
and the chop. R48, R54, R55, R59, R110, R111: the overcurrent and the open load of the latch, and the
crossings of a current threshold. R46, R48, R54, R55 and section 3.2: what the latch bridge puts out in each
phase. The field that tells the two brakes apart, the direction of a drive held
back, the filters at its start and the phase of the 2 kHz period are the model's choices
(notes/assumptions/19.md, 22.md, 39.md, 50.md). -/
def Obligations.LatchTimerRows : Prop :=
  (∀ l : Latch,
     let driven : BridgeOut := match l.direction with
       | some .forward => .forward
       | some .back => .back
       | none => .off
     latchBridge l = match l.phase with
       | .brake => .brake
       | .drive => driven
       | .regulate => if l.chopOn = true then driven else .off
       | .overtravel => if l.resume = .drive ∨ l.chopOn = true then driven else .off
       | .idle => .off
       | .pause => .off
       | .failed => .off) ∧
  (∀ s : State, active s = true →
     let l := s.latch
     let ok := decide (70 ≤ s.supply.value)
     let ended : Latch := { l with phase := .idle, crashPursuit := false, supplyWait := none }
     let failed : Latch := { l with phase := .failed, crashPursuit := false, supplyWait := none }
     let timeout (x : Latch) : State :=
       captureAwake .latchTimeout ((latchTargetCode l.target).setWidth 8)
         ((latchPosCode l.observed).setWidth 8) 2 { s with latch := { x with pulseElapsed := 300000 } }
     (l.phase = .overtravel →
       exec .overtravelEnd s = .next (conclude { s with latch := ended }) ∧
       (l.resume = .drive →
         exec .overtravelCurrentStop s = .next (conclude { s with latch := ended }))) ∧
     (l.phase = .brake → l.brakeForPassed = true →
       let pulse := min 300000 (l.pulseElapsed + (50000 - l.phaseTimer))
       (l.observed = targetPos l.target →
         exec .latchBrakeEnd s =
           .next (conclude { s with latch := { ended with pulseElapsed := pulse } })) ∧
       (l.observed ≠ targetPos l.target → pulse = 300000 → l.resume = .drive → l.attempt ≤ 1 →
         exec .latchBrakeEnd s =
           .next (conclude { s with latch :=
             { l with phase := .pause, phaseTimer := 0, pulseElapsed := 300000 } })) ∧
       (l.observed ≠ targetPos l.target → pulse = 300000 → l.resume = .drive → 1 < l.attempt →
         exec .latchBrakeEnd s = .next (conclude (timeout failed))) ∧
       (∀ r, l.observed ≠ targetPos l.target → pulse < 300000 ∨ l.resume = .regulate →
         l.direction = some r →
         exec .latchBrakeEnd s =
           .next (conclude { s with latch :=
             (entered ok (match r with | .forward => .back | .back => .forward)
               { l with pulseElapsed := pulse }) }))) ∧
     (l.phase = .brake → l.brakeForPassed = false →
       exec .latchBrakeEnd s =
         .next (conclude { s with latch := (pursuit ok l.target l.crashPursuit l) })) ∧
     (l.phase = .drive → l.attempt ≤ 1 →
       exec .latchPulseLimit s =
         .next (conclude { s with latch :=
           { l with phase := .pause, phaseTimer := 0, pulseElapsed := 300000 } })) ∧
     (l.phase = .drive → 1 < l.attempt →
       exec .latchPulseLimit s = .next (conclude (timeout failed))) ∧
     (l.phase = .pause → needDir l.target l.observed = none →
       exec .latchPauseEnd s = .next (conclude { s with latch := ended })) ∧
     (∀ d, l.phase = .pause → needDir l.target l.observed = some d →
       exec .latchPauseEnd s =
         .next (conclude { s with latch :=
           (entered ok d { l with attempt := 2, pulseElapsed := 0, openLoad := some 0 }) })) ∧
     (∀ w, l.phase = .idle → l.supplyWait = some w →
       exec .latchSupplyWaitExpiry s = .next (conclude { s with latch := failed })) ∧
     (l.phase = .regulate →
       exec .regulationLimit s =
         .next (conclude (captureAwake .latchOvercurrent ((latchTargetCode l.target).setWidth 8)
           ((latchPosCode l.observed).setWidth 8) (match l.regLimit with | .normal => 1 | .crash => 2)
           { s with latch :=
             { failed with
               regElapsed := (match l.regLimit with | .normal => 1200000 | .crash => 2000000) } }))) ∧
     (l.phase = .regulate ∨ (l.phase = .overtravel ∧ l.resume = .regulate) →
       exec .chopPeriodStart s =
         .next (conclude { s with latch :=
           { l with chopTimer := 0, chopBegun := true, chopOn := true, chopAbove := 0 } }) ∧
       (l.chopBegun = true → l.chopOn = true →
         exec .regulateChopOff s = .next (conclude { s with latch := { l with chopOn := false } })))) ∧
  (∀ s : State, active s = true →
     let l := s.latch
     (l.phase = .drive → s.settings.options.regulate = true →
       exec .latchOvercurrent s =
         .next (conclude { s with latch :=
           { l with phase := .regulate, overTime := 0, chopBegun := false, chopOn := true,
                    chopAbove := 0 } })) ∧
     (l.phase = .drive → s.settings.options.regulate = false →
       exec .latchOvercurrent s =
         .next (conclude (captureAwake .latchOvercurrent ((latchTargetCode l.target).setWidth 8)
           ((latchPosCode l.observed).setWidth 8) 0
           { s with latch :=
             { l with phase := .failed, crashPursuit := false, supplyWait := none } }))) ∧
     (l.openLoad ≠ none → l.phase = .drive ∨ l.phase = .regulate →
       exec .latchOpenLoad s =
         .next (conclude (captureAwake .latchOpenLoad ((latchTargetCode l.target).setWidth 8)
           (if l.direction = some .back then 1 else 0) (BitVec.ofNat 8 l.attempt)
           { s with latch := { l with openLoad := none } }))) ∧
     (∀ band,
       exec (.motorCurrentChange .latch band) s =
         .next (conclude { s with latch :=
           { l with
             current := band
             overTime := if band = .high ∧ l.current = .high then l.overTime else 0
             chopAbove := if band = .high ∧ l.current = .high then l.chopAbove else 0
             openLoad :=
               if band ≠ .low ∧ (l.phase = .drive ∨ (l.phase = .regulate ∧ l.chopOn = true)) then none
               else l.openLoad } })) ∧
     (∀ band, s.straps.position ≠ 4 →
       exec (.motorCurrentChange .window band) s =
         .next (conclude { s with window :=
           { s.window with
             current := band
             overTime := if band = .high ∧ s.window.current = .high then s.window.overTime else 0
             run :=
               if band ≠ .low ∧ s.window.bridge = .drive then
                 s.window.run.map fun r => { r with openLoad := none }
               else s.window.run } })) ∧
     (∀ band, s.straps.position = 4 →
       exec (.motorCurrentChange .window band) s = .next (conclude s)))

/-- R51: the brake of R46 ends with a new pursuit toward the target as it stands, ordinary or crash. The
field that tells the two brakes apart, and the filters and the chop period that the pursuit sets anew, are
the model's choices (notes/assumptions/22.md, 39.md, 50.md). -/
def Obligations.BrakeEndStartsPursuit : Prop :=
  ∀ s : State, active s = true → s.latch.phase = .brake → s.latch.brakeForPassed = false →
    exec .latchBrakeEnd s =
      .next (conclude { s with latch :=
        (pursuit (decide (70 ≤ s.supply.value)) s.latch.target s.latch.crashPursuit s.latch) })

/-! ## Locking -/

/-- R61, R66: a LOCK from any source: refused in crash hold or with a key inside, else applied, with the
follow-up at an open door, and otherwise with a LOCKED write unless the latch is deadlocked, and the
deadlock window. R68: a DEADLOCK: refused in crash hold, taken as a LOCK when a door is open or not known to
be closed, and otherwise applied. -/
def Obligations.CentralLockAndDeadlock : Prop :=
  (∀ (src : ActionSource) (cause : LockCause) (number : Byte) (own : Bool) (s : State),
     let inside := cause = .keyless ∧ s.search.number = number ∧
       ∃ f : Fin 4, s.search.verdicts[f] = some .inside
     let applied : LockLogic :=
       { s.lock with
         action := some .lock, source := src, refusal := .none, relock := none, deadlockWindow := none
         inFlight :=
           if own = true then s.lock.inFlight
           else s.lock.inFlight.map fun r => { r with overtaken := true } }
     let window : Option Nat :=
       if cause = .fobButton ∨ cause = .keyCylinder ∨ cause = .keyless then some 3000000 else none
     let u := takeLock src cause number own s
     (s.crash.hold = true → u = { s with lock := { s.lock with refusal := .crashHold } }) ∧
     (s.crash.hold = false → inside → u = { s with lock := { s.lock with refusal := .keyInside } }) ∧
     (s.crash.hold = false → ¬ inside → s.pins.doorOpen = true →
       u = { s with lock := { applied with followUp := true } }) ∧
     (s.crash.hold = false → ¬ inside → s.pins.doorOpen = false →
       s.latch.target = .deadlocked ∨ s.latch.observed = .deadlocked →
       u = { s with lock := { applied with followUp := false, deadlockWindow := window } }) ∧
     (s.crash.hold = false → ¬ inside → s.pins.doorOpen = false → s.latch.target ≠ .deadlocked →
       s.latch.observed ≠ .deadlocked →
       u = { s with
             lock := { applied with followUp := false, deadlockWindow := window }
             latch := latchWrite (decide (70 ≤ s.supply.value)) .locked s.latch })) ∧
  (∀ (src : ActionSource) (cause : LockCause) (number : Byte) (own : Bool) (s : State),
     let doubtful (p : Peer) : Prop :=
       p.presence = .lost ∨ p.presence = .neverHeard ∨ (p.presence = .present ∧ p.lastState = none) ∨
       ((p.presence = .present ∨ p.presence = .asleep) ∧ ∃ c, p.lastState = some c ∧ c.doorOpen = true)
     let asLock := s.pins.doorOpen = true ∨
       ∃ k : Fin 8, k.val < 5 ∧ expectedStation s.straps.body k.val = true ∧ k ≠ s.straps.position ∧
         doubtful s.roster.peers[k]
     let u := takeDeadlock src cause number own s
     (s.crash.hold = true → u = { s with lock := { s.lock with refusal := .crashHold } }) ∧
     (s.crash.hold = false → asLock → u = takeLock src cause number own s) ∧
     (s.crash.hold = false → ¬ asLock →
       u = { s with
             lock :=
               { s.lock with
                 action := some .deadlock, source := src, refusal := .none, relock := none
                 deadlockWindow := none, followUp := false
                 inFlight :=
                   if own = true then s.lock.inFlight
                   else s.lock.inFlight.map fun r => { r with overtaken := true } }
             latch := latchWrite (decide (70 ≤ s.supply.value)) .deadlocked s.latch }))

/-- R69: an UNLOCK from any source is applied whatever the crash hold: follow-up, drive-away lock, the
latch, and the relock timer by cause, door and option. -/
def Obligations.CentralUnlock : Prop :=
  ∀ (src : ActionSource) (cause : LockCause) (own : Bool) (s : State),
    takeUnlock src cause own s =
      { s with
        lock :=
          { s.lock with
            action := some .unlock, source := src, refusal := .none, deadlockWindow := none
            followUp := false, driveAwayArmed := false
            inFlight :=
              if own = true then s.lock.inFlight
              else s.lock.inFlight.map fun r => { r with overtaken := true }
            relock :=
              if (cause = .fobButton ∨ cause = .keyless) ∧ s.pins.doorOpen = false ∧
                  s.settings.options.relock ≠ 0 then
                some (s.settings.options.relock * 1000000)
              else none }
        latch := latchWrite (decide (70 ≤ s.supply.value)) .unlocked s.latch }

/-- R77: the central buttons at the driver station. A press is the change to closed; a held button does not
repeat. That the command carries the level is the model's choice (notes/assumptions/37.md). -/
def Obligations.CentralButtons : Prop :=
  ∀ s : State, active s = true → isDriverStation s = true → s.pins.wakeDebounce = none →
    let locks : State := { s with pins := { s.pins with centralLock := true } }
    let unlocks : State := { s with pins := { s.pins with centralUnlock := true } }
    (s.pins.centralLock = false → s.pins.doorOpen = false →
      exec (.centralLockButton true) s =
        .next (conclude (placeRequest .lock .insideButton 0 locks))) ∧
    (s.pins.centralLock = false → s.pins.doorOpen = true →
      exec (.centralLockButton true) s = .next (conclude locks)) ∧
    (s.pins.centralLock = true → exec (.centralLockButton true) s = .next (conclude s)) ∧
    (exec (.centralLockButton false) s =
      .next (conclude { s with pins := { s.pins with centralLock := false } })) ∧
    (s.pins.centralUnlock = false →
      exec (.centralUnlockButton true) s =
        .next (conclude (placeRequest .unlock .insideButton 0 unlocks))) ∧
    (s.pins.centralUnlock = true → exec (.centralUnlockButton true) s = .next (conclude s)) ∧
    (exec (.centralUnlockButton false) s =
      .next (conclude { s with pins := { s.pins with centralUnlock := false } }))

/-- R62, R64, R78: the key cylinder at the driver station, and an own LOCKREQ at any station: placed with the
counter's value, applied here, recorded in flight when the link took it, and NOT_SENT when it did not. That
NOT_SENT stands over another refusal is the model's reading (notes/assumptions/23.md), and a press is a
change of level (notes/assumptions/37.md). -/
def Obligations.OwnRequests : Prop :=
  (∀ s : State, active s = true → isDriverStation s = true → s.pins.wakeDebounce = none →
    let turnedLock : State := { s with pins := { s.pins with keyLock := true } }
    let turnedUnlock : State := { s with pins := { s.pins with keyUnlock := true } }
    (s.pins.keyLock = false → s.lock.secondTurn = none →
      exec (.keyLockTurn true) s =
        .next (conclude (placeRequest .lock .keyCylinder 0
          { turnedLock with lock := { s.lock with secondTurn := some 3000000 } }))) ∧
    (s.pins.keyLock = false → s.lock.secondTurn ≠ none →
      exec (.keyLockTurn true) s =
        .next (conclude (placeRequest .deadlock .keyCylinder 0
          { turnedLock with lock := { s.lock with secondTurn := none } }))) ∧
    (s.pins.keyLock = true → exec (.keyLockTurn true) s = .next (conclude s)) ∧
    (s.pins.keyUnlock = false →
      exec (.keyUnlockTurn true) s =
        .next (conclude (placeRequest .unlock .keyCylinder 0
          { turnedUnlock with lock := { s.lock with secondTurn := none } }))) ∧
    (s.pins.keyUnlock = true → exec (.keyUnlockTurn true) s = .next (conclude s)) ∧
    (exec (.keyLockTurn false) s =
      .next (conclude { s with pins := { s.pins with keyLock := false } })) ∧
    (exec (.keyUnlockTurn false) s =
      .next (conclude { s with pins := { s.pins with keyUnlock := false } }))) ∧
  (∀ (a : CentralAction) (c : LockCause) (number : Byte) (s : State),
    let q := s.lock.sequence
    let payload : List Byte :=
      [(match a with | .lock => 1 | .deadlock => 2 | .unlock => 3), lockCauseCode c, q] ++
        (if c = .keyless then [number] else [])
    let r := place { kind := 3, sender := BitVec.ofFin s.straps.position, payload := payload }
      { s with lock := { s.lock with sequence := q + 1 } }
    let s1 := request a (.node s.straps.position q) c number false r.1
    (r.2 = .taken →
      placeRequest a c number s =
        { s1 with lock :=
          { s1.lock with
            inFlight := some { action := a, cause := c, sequence := q, search := number,
                               overtaken := false } } }) ∧
    (r.2 ≠ .taken →
      placeRequest a c number s =
        { s1 with lock := { s1.lock with refusal := .notSent, inFlight := none } }))

/-- R40, R58, R72, R73, R75, R76, R87: the own door and the inside handle. That an input command wakes the
station first, and carries the level, are the model's choices (notes/assumptions/15.md, 37.md). -/
def Obligations.DoorAndHandleRows : Prop :=
  ∀ s : State, active s = true → s.pins.wakeDebounce = none →
    (exec (.doorAjarChange s.pins.doorOpen) s = .next (conclude s)) ∧
    (s.pins.doorOpen = false →
      let opened : State := { s with pins := { s.pins with doorOpen := true } }
      let s1 : State :=
        if s.latch.target = .deadlocked ∨ s.latch.observed = .deadlocked then
          { opened with latch := latchWrite (decide (70 ≤ s.supply.value)) .unlocked s.latch }
        else opened
      let s2 : State := { s1 with lock := { s1.lock with relock := none } }
      exec (.doorAjarChange true) s =
        .next (conclude
          (if s.straps.position = 0 ∨ s.straps.position = 1 then
            { s2 with vehicle := { s2.vehicle with afterRun := none } }
           else s2))) ∧
    (s.pins.doorOpen = true →
      let closed : State := { s with pins := { s.pins with doorOpen := false } }
      let s1 : State := { closed with lock := { s.lock with followUp := false } }
      (s.lock.followUp = false →
        exec (.doorAjarChange false) s = .next (conclude (driveAwayTest closed))) ∧
      (s.lock.followUp = true → s.crash.hold = false → s.lock.action = some .lock →
        s.latch.target ≠ .deadlocked → s.latch.observed ≠ .deadlocked →
        exec (.doorAjarChange false) s =
          .next (conclude (driveAwayTest
            { s1 with latch := latchWrite (decide (70 ≤ s.supply.value)) .locked s.latch }))) ∧
      (s.lock.followUp = true →
        s.crash.hold = true ∨ s.lock.action ≠ some .lock ∨ s.latch.target = .deadlocked ∨
          s.latch.observed = .deadlocked →
        exec (.doorAjarChange false) s = .next (conclude (driveAwayTest s1)))) ∧
    (let pull : State := { s with pins := { s.pins with handlePulled := true } };
      let stopped := (s.straps.position = 2 ∨ s.straps.position = 3) ∧ s.child.position = true;
      (s.pins.handlePulled = false → ¬ stopped → s.latch.target = .locked →
        exec (.insideHandlePull true) s =
          .next (conclude
            { pull with latch := latchWrite (decide (70 ≤ s.supply.value)) .unlocked s.latch })) ∧
      (s.pins.handlePulled = true ∨ stopped ∨ s.latch.target ≠ .locked →
        exec (.insideHandlePull true) s = .next (conclude pull)) ∧
      exec (.insideHandlePull false) s =
        .next (conclude { s with pins := { s.pins with handlePulled := false } }))

/-- R67, R73, R75, R78, R80: the timers of lock logic, the drive-away test and the tailgate release, whose
actuator is driven while the release record is PULSING. -/
def Obligations.LockTimerRows : Prop :=
  ∀ s : State, active s = true →
    (s.lock.deadlockWindow ≠ none →
      exec .deadlockWindowExpiry s =
        .next (conclude { s with lock := { s.lock with deadlockWindow := none } })) ∧
    (s.lock.relock ≠ none →
      exec .relockExpiry s =
        .next (conclude (takeLock .autoRelock .autoRelock 0 false
          { s with lock := { s.lock with relock := none } }))) ∧
    (s.lock.secondTurn ≠ none →
      exec .secondTurnExpiry s =
        .next (conclude { s with lock := { s.lock with secondTurn := none } })) ∧
    (s.release.pulse ≠ none →
      exec .releasePulseEnd s = .next (conclude { s with release := { pulse := none } })) ∧
    (let known (p : Peer) : Prop :=
        p.presence ≠ .neverHeard ∧ ∃ c, p.lastState = some c ∧ c.doorOpen = false;
      let fires := s.lock.driveAwayArmed = true ∧ (∃ v, s.vehicle.speed = some v ∧ 15 ≤ v) ∧
        s.pins.doorOpen = false ∧
        ∀ k : Fin 8, k.val < 5 → expectedStation s.straps.body k.val = true →
          k ≠ s.straps.position → known s.roster.peers[k];
      (fires →
        driveAwayTest s =
          takeLock .driveAway .driveAway 0 false
            { s with lock := { s.lock with driveAwayArmed := false } }) ∧
      (¬ fires → driveAwayTest s = s)) ∧
    (let permitted := (∃ v, s.vehicle.speed = some v ∧ v < 3) ∨
        (s.vehicle.speed = none ∧ s.vehicle.ignition = .off);
      (s.release.pulse = none → permitted →
        releaseRequest s = { s with release := { pulse := some 0 } } ∧
        releaseOutput (releaseRequest s).release = true) ∧
      (s.release.pulse ≠ none ∨ ¬ permitted → releaseRequest s = s)) ∧
    (releaseOutput s.release = false ↔ s.release.pulse = none)

/-! ## Child safety and crash response -/

/-- R82, R84 to R86, R88: the child switch, the end of the actuator's pulse, and the driver's child button.
R83: a request at a rear station. R84: the actuator is driven in the pulse's direction while a pulse runs. That the button's command carries the level is the model's choice
(notes/assumptions/37.md). -/
def Obligations.ChildRows : Prop :=
  (∀ s : State, active s = true →
     (s.pins.wakeDebounce = none → s.straps.position = 2 ∨ s.straps.position = 3 →
       exec (.childSwitchChange false) s =
         .next (conclude { s with child := { s.child with position := false } }) ∧
       (s.child.position = true → exec (.childSwitchChange true) s = .next (conclude s)) ∧
       (s.child.position = false →
         let s1 : State := { s with child := { s.child with position := true } }
         (∀ m, s.window.move = some m → m.source = .ownSwitch →
           m.kind = .manual ∨ m.kind = .auto →
           exec (.childSwitchChange true) s =
             .next (conclude (endMove .yieldingStop false false .none s1))) ∧
         ((∀ m, s.window.move = some m → ¬ (m.source = .ownSwitch ∧
             (m.kind = .manual ∨ m.kind = .auto))) →
           exec (.childSwitchChange true) s = .next (conclude s1)))) ∧
     (∀ p, s.straps.position = 2 ∨ s.straps.position = 3 → s.child.pulse = some p →
       let after : Child :=
         match s.child.request with
         | some on => childRequest on { s.child with pulse := none, request := none }
         | none => { s.child with pulse := none, request := none }
       (p.towardOn = s.child.position →
         exec .childPulseEnd s = .next (conclude { s with child := after })) ∧
       (p.towardOn ≠ s.child.position →
         exec .childPulseEnd s =
           .next (conclude
             { captureAwake .childActuator (if p.towardOn then 1 else 0)
                 (if s.child.position then 1 else 0) 0 s with child := after }))) ∧
     (s.pins.wakeDebounce = none → isDriverStation s = true →
       let pressed : State := { s with pins := { s.pins with childButton := true } }
       let clear (p : Peer) : Prop :=
         (p.presence = .present ∨ p.presence = .asleep) ∧
           ∃ c, p.lastState = some c ∧ c.childOn = false
       let ask (a : Byte) : State :=
         (place { kind := 3, sender := BitVec.ofFin s.straps.position,
                  payload := [a, 4, s.lock.sequence] }
           { pressed with lock := { s.lock with sequence := s.lock.sequence + 1 } }).1
       (s.pins.childButton = true → exec (.childButtonPress true) s = .next (conclude s)) ∧
       (s.pins.childButton = false → s.straps.body = .threeDoor →
         exec (.childButtonPress true) s = .next (conclude pressed)) ∧
       (s.pins.childButton = false → s.straps.body = .fiveDoor →
         clear s.roster.peers[2] ∨ clear s.roster.peers[3] →
         exec (.childButtonPress true) s = .next (conclude (ask 4))) ∧
       (s.pins.childButton = false → s.straps.body = .fiveDoor →
         ¬ (clear s.roster.peers[2] ∨ clear s.roster.peers[3]) →
         exec (.childButtonPress true) s = .next (conclude (ask 5))) ∧
       exec (.childButtonPress false) s =
         .next (conclude { s with pins := { s.pins with childButton := false } }))) ∧
  (∀ (on : Bool) (c : Child),
     (c.pulse = none → on = c.position → childRequest on c = c) ∧
     (c.pulse = none → on ≠ c.position →
       childRequest on c = { c with pulse := some { towardOn := on, elapsed := 0 }, request := none }) ∧
     (∀ e, c.pulse = some { towardOn := on, elapsed := e } →
       childRequest on c = { c with request := none }) ∧
     (∀ e, c.pulse = some { towardOn := !on, elapsed := e } →
       childRequest on c = { c with request := some on })) ∧
  (∀ c : Child,
     (c.pulse = none → childOutput c = none) ∧
     (∀ p, c.pulse = some p → childOutput c = some p.towardOn))

/-- R34, R56, R89 to R91, R112, R180: the crash line, which wakes a station that sleeps, the own event, which
waits for a station that is not AWAKE where the line stayed active to the end of its 2 ms, and the crash entry:
crash hold, reported before an own CRASH enters the queue (R91), the follow-up flag, the crash unlock write,
the brake-stop of a running move, and the CRASH telegram with the next number. When the STATE is placed, and
that an ending leaves a running brake alone, are the model's readings (notes/assumptions/13.md, 24.md). -/
def Obligations.CrashRows : Prop :=
  ∀ s : State,
    (operating s = true → s.crash.line = .inactive →
      (s.power.asleep = false →
        exec .crashLineActive s =
          .next (conclude { s with crash := { s.crash with line := .active 0 } })) ∧
      (s.power.asleep = true →
        exec .crashLineActive s =
          .next (conclude
            { placeState (woken s) with crash := { s.crash with line := .active 0 } }))) ∧
    (operating s = true →
      ((∀ e, s.crash.line = .active e → e < 2000) →
        exec .crashLineInactive s =
          .next (conclude { s with crash := { s.crash with line := .inactive } })) ∧
      (∀ e, s.crash.line = .active e → 2000 ≤ e →
        exec .crashLineInactive s =
          .next (conclude { s with crash := { s.crash with line := .inactive, due := true } }))) ∧
    (active s = true →
      let n : Byte := if s.crash.ownNumber = 255 then 1 else s.crash.ownNumber + 1
      let own (c : Crash) : State :=
        (place { kind := 1, sender := BitVec.ofFin s.straps.position, payload := [n] }
          (crashEntry { s with crash := { c with ownNumber := n } })).1
      (s.crash.due = true →
        exec .crashLineQualified s = .next (conclude (own { s.crash with due := false }))) ∧
      (∀ e, s.crash.due = false → s.crash.line = .active e →
        exec .crashLineQualified s = .next (conclude (own { s.crash with line := .qualified }))) ∧
      (s.crash.due = false → s.crash.line = .inactive ∨ s.crash.line = .qualified →
        exec .crashLineQualified s = .next s)) ∧
    (let flagged : State := { s with crash := { s.crash with hold := true } };
      let placed := if s.crash.hold = true then flagged else reported (reported flagged);
      let s1 : State :=
        { placed with
          lock := { s.lock with followUp := false }
          latch := crashUnlock (decide (70 ≤ s.supply.value)) s.latch };
      (s.window.move = none → crashEntry s = s1) ∧
      (s.window.move ≠ none → crashEntry s = endMove .brakeStop false false .none s1))

/-! ## The window -/

/-- R96 to R99, R104, R109, R112, R113, R117, R118: Hall steps, the stall table, the end of the coast and of
a brake, the start of a run, and the ramp. Each timer of window drive that expires within the time that a step
brings is an event of its own in its place, by its row, so that the edge finds the bridge, the coast and the
run as R96 has them; a step that comes with an expiry is taken before it (R125). R98, R99: the outcome of a
stall, row by row. R113: a start charge that takes H to 1000 ends the move. R109: the duty is the ramp value,
and at most 280 in the entry zone of an upward run of a POSITIONED window; both low sides are on in BRAKE.
R119, R120, R124: what the pinch monitor reads at a step. That a Hall edge carries the time since the last
event, that only the timers of window drive are taken within it, that the start charge is tested, the
overcurrent filter at a start, and a run that starts at its reversal's stop step, are the model's choices
(notes/assumptions/8.md, 25.md, 39.md, 53.md). -/
def Obligations.WindowMotionRows : Prop :=
  (∀ w : Window,
     (w.bridge = .off → windowBridge w = .off) ∧
     (w.bridge = .brake → windowBridge w = .brake) ∧
     (∀ r, w.bridge = .drive → w.run = some r →
       (∀ t, r.dir = .up → w.knowledge = .positioned → w.pTop = some t → t - 16 < w.p →
         windowBridge w = .drive .up (min r.ramp 280)) ∧
       (r.dir = .down ∨ w.knowledge ≠ .positioned ∨ (∀ t, w.pTop = some t → w.p ≤ t - 16) →
         windowBridge w = .drive r.dir r.ramp))) ∧
  (∀ (r : Run) (s : State),
     stepReads r s =
       { knowledge := s.window.knowledge, pTop := s.window.pTop.getD 0, p := s.window.p, ramp := r.ramp
         override := r.override, supply := max 90 (min 160 s.supply.value)
         sTh := s.settings.options.sTh }) ∧
  (∀ (k n : Nat) (s : State),
     elapseTimers 0 n s = elapse n s ∧
     ((∀ x t, leftFor s x = some t → n ≤ t) → elapseTimers k n s = elapse n s) ∧
     (∀ x t, firstToExpire s x t → t < n →
       elapseTimers (k + 1) n s = elapseTimers k (n - t) (conclude (expire x (elapse t s))))) ∧
  (∀ s : State, hasWindow s = true →
     (∀ n : Nat,
       exec (.hallStep n) s =
         .next (conclude (hallEdge (elapseTimers (32 + n / 2000000) n s)))) ∧
     (∀ x, leftFor s x = some 0 →
       (x = .lease → ∃ m, s.window.move = some m ∧ m.kind = .manual ∧ m.source = .pack) →
       exec (commandOf x) s = .next (conclude (expire x s))) ∧
     (let top : Nat := if s.window.knowledge = .positioned then s.window.pTop.getD 4095 else 4095;
       let moved (d : Dir) : Nat :=
         min top (match d with | .up => s.window.p + 1 | .down => s.window.p - 1);
       (s.window.bridge = .brake ∨ (s.window.bridge = .off ∧ s.window.coast ≠ none) →
         hallEdge s = { s with window := { s.window with p := moved s.window.lastDir } }) ∧
       (s.window.bridge = .off → s.window.coast = none →
         (s.window.unexpected < 15 →
           hallEdge s =
             { s with window := { s.window with unexpected := s.window.unexpected + 1 } }) ∧
         (s.window.unexpected = 15 →
           hallEdge s =
             capture .windowHall ((knowledgeCode s.window.knowledge).setWidth 8) 16 0
               (setKnowledge .unpositioned
                 { s with window := { s.window with unexpected := 16 } })) ∧
         (16 ≤ s.window.unexpected → hallEdge s = s)) ∧
       (∀ r, s.window.bridge = .drive → s.window.run = some r →
         let s1 : State :=
           { s with window := { s.window with p := moved r.dir, run := some { r with stall := 0 } } };
         (r.dir = .down →
           hallEdge s = reversalStep { s1 with pinch := { s.pinch with counter := some 0 } }) ∧
         (r.dir = .up →
           let u := pinchUpStep (stepReads r s1) s.pinch
           hallEdge s =
             if u.2 = true then declarePinch { s1 with pinch := u.1 } else { s1 with pinch := u.1 }))) ∧
     (active s = true →
       (∀ r, s.window.bridge = .drive → s.window.run = some r →
         (150000 ≤ r.stall → exec .windowStall s = .next (conclude (stalled s))) ∧
         (r.stall < 150000 → exec .windowStall s = .next s) ∧
         exec .rampStep s =
           .next (conclude { s with window :=
             { s.window with run :=
               (some { r with ramp := min 400 (r.ramp + 40),
                              rampTimer := r.rampTimer - 10000 }) } })) ∧
       (s.window.coast ≠ none →
         exec .coastEnd s =
           .next (conclude (markRecord .windowRecord
             { s with window :=
               { s.window with
                 coast := none, restPosition := s.window.p, movingMarker := false } }))) ∧
       (s.window.bridge = .brake → s.window.move = none →
         exec .windowBrakeEnd s =
           .next (conclude { s with window :=
             { s.window with bridge := .off, coast := some 0, run := none, excursion := none } })) ∧
       (∀ m, s.window.bridge = .brake → s.window.move = some m →
         exec .windowBrakeEnd s = .next (conclude (startRun m s))))) ∧
  (∀ (s : State) (m : Move),
     let overrides := m.kind = .manual ∧ m.dir = .up ∧ (m.source = .ownSwitch ∨ m.source = .pack) ∧
       2 ≤ s.window.reversals
     let s1 : State :=
       if s.window.bridge = .off then
         markRecord .windowRecord { s with window := { s.window with movingMarker := true } }
       else s
     let s2 : State :=
       { s1 with
         window :=
           { s1.window with
             bridge := .drive, lastDir := m.dir, coast := none, unexpected := 0
             run := some
               { dir := m.dir, ramp := 160, rampTimer := 0, openLoad := some 0, stall := 0
                 override := decide overrides }
             heat := min 1000 (s.window.heat + 10), offTime := 0, excursion := none, overTime := 0
             reversalReset := if m.dir = .up then none else s.window.reversalReset }
         pinch :=
           { s.pinch with
             counter := some 0, stepCount := 0, blanking := true, filtered := none
             fallback := none, count := 0
             mode :=
               if m.dir = .up ∧ ¬ overrides then
                 (match s.window.knowledge with
                   | .positioned => .sector | .bottomKnown => .bin | .unpositioned => .none)
               else .none
             sectorAcc := Vector.replicate 32 ⟨0, 0⟩, binAcc := Vector.replicate 64 ⟨0, 0⟩
             holding := [] } }
     (s.window.heat + 10 < 1000 → startRun m s = s2) ∧
     (1000 ≤ s.window.heat + 10 → startRun m s = endMove .stop false true .none s2)) ∧
  (∀ (s : State) (r : Run), s.window.run = some r →
     let p := s.window.p
     let bottom : State := { s with window := { s.window with p := 0 } }
     let ended : State := endMove .stop false true .none s
     (s.window.knowledge = .unpositioned → r.dir = .down →
       stalled s = endMove .stop false true .none (setKnowledge .bottomKnown bottom)) ∧
     (s.window.knowledge = .unpositioned → r.dir = .up → stalled s = ended) ∧
     (s.window.knowledge ≠ .unpositioned → r.dir = .down → p ≤ 16 →
       stalled s = endMove .stop false true .none bottom) ∧
     (s.window.knowledge ≠ .unpositioned → r.dir = .down → 16 < p → stalled s = ended) ∧
     (s.window.knowledge = .bottomKnown → r.dir = .up →
       (400 ≤ p → p ≤ 4000 →
         (s.window.pTop = none ∨ (∃ t, s.window.pTop = some t ∧ p ≤ t + 32 ∧ t ≤ p + 32) →
           stalled s =
             endMove .stop true true .none
               (setKnowledge .positioned { s with window := { s.window with pTop := some p } })) ∧
         (∀ t, s.window.pTop = some t → t + 32 < p ∨ p + 32 < t →
           stalled s =
             endMove .stop true true .none
               (setKnowledge .positioned
                 { s with
                   window := { s.window with pTop := some p }
                   pinch :=
                     { s.pinch with
                       profile := vmap (fun x => { x with learn := 0 }) s.pinch.profile } }))) ∧
       (p < 400 ∨ 4000 < p →
         stalled s =
           endMove .stop false true .none
             (capture .windowTravel (BitVec.ofNat 8 (p / 256)) (BitVec.ofNat 8 (p % 256)) 0 s))) ∧
     (∀ t, s.window.knowledge = .positioned → s.window.pTop = some t → r.dir = .up →
       let inZone := (t < 816 ∨ t ≤ p + 800) ∧ p + 16 ≤ t
       (t ≤ p + 16 →
         stalled s =
           endMove .stop true true .none { s with window := { s.window with p := t } }) ∧
       (p + 16 < t → inZone → r.override = false → stalled s = declarePinch s) ∧
       (p + 16 < t → ¬ inZone ∨ r.override = true → stalled s = ended)) ∧
     (∀ k : Knowledge,
       (s.window.knowledge = k → setKnowledge k s = s) ∧
       (s.window.knowledge ≠ k →
         setKnowledge k s = markRecord .windowRecord { s with window := { s.window with knowledge := k } })))

/-- R88, R101, R102: the own window switch, the driver pack's switches, and their refreshes. That an input
command wakes the station first, and that a release in an end brake lets it run on, are the model's choices
(notes/assumptions/15.md, 44.md). -/
def Obligations.WindowSwitchRows : Prop :=
  ∀ s : State, active s = true → s.pins.wakeDebounce = none →
    (∀ pos : SwitchPos,
      let s1 : State := { s with pins := { s.pins with ownSwitch := pos } }
      let gated := s.straps.position = 4 ∨
        ((s.straps.position = 2 ∨ s.straps.position = 3) ∧ s.child.position = true)
      let before := s.pins.ownSwitch
      (gated → exec (.windowSwitchChange pos) s = .next (conclude s1)) ∧
      (¬ gated →
        (∀ d, pos = (match d with | .up => .up2 | .down => .down2) → before ≠ pos →
          exec (.windowSwitchChange pos) s =
            .next (conclude (takeCommand ⟨.auto, d, .ownSwitch⟩ s1))) ∧
        (∀ d, pos = (match d with | .up => .up1 | .down => .down1) → before ≠ pos →
          before ≠ (match d with | .up => .up2 | .down => .down2) →
          exec (.windowSwitchChange pos) s =
            .next (conclude (takeCommand ⟨.manual, d, .ownSwitch⟩ s1))) ∧
        (pos = .neutral → before = .up1 ∨ before = .down1 →
          (∀ m, s.window.move = some m → m.kind = .manual → m.source = .ownSwitch →
            exec (.windowSwitchChange pos) s =
              .next (conclude (endMove .yieldingStop false false .none s1))) ∧
          ((∀ m, s.window.move = some m → ¬ (m.kind = .manual ∧ m.source = .ownSwitch)) →
            exec (.windowSwitchChange pos) s = .next (conclude s1))) ∧
        (before = pos ∨ (before = .up2 ∧ pos = .up1) ∨ (before = .down2 ∧ pos = .down1) ∨
            (before = .up2 ∧ pos = .neutral) ∨ (before = .down2 ∧ pos = .neutral) →
          exec (.windowSwitchChange pos) s = .next (conclude s1)))) ∧
    (∀ k : Fin 4, isDriverStation s = true → expectedStation s.straps.body k.val = true →
      s.straps.position.val ≠ k.val →
      let before := s.pins.packSwitch[k]
      let sent (pos : SwitchPos) (a : Byte) (refresh : Option Nat) : State :=
        (place { kind := 4, sender := BitVec.ofFin s.straps.position,
                 payload := [BitVec.twoPow 8 k.val, a, s.lock.sequence] }
          { s with
            pins := { s.pins with packSwitch := s.pins.packSwitch.set k.val pos k.isLt }
            pack := { refresh := s.pack.refresh.set k.val refresh k.isLt }
            lock := { s.lock with sequence := s.lock.sequence + 1 } }).1
      (before ≠ .up2 → exec (.packWindowSwitchChange k .up2) s = .next (conclude (sent .up2 3 none))) ∧
      (before ≠ .down2 →
        exec (.packWindowSwitchChange k .down2) s = .next (conclude (sent .down2 4 none))) ∧
      (before ≠ .up1 → before ≠ .up2 →
        exec (.packWindowSwitchChange k .up1) s = .next (conclude (sent .up1 1 (some 0)))) ∧
      (before ≠ .down1 → before ≠ .down2 →
        exec (.packWindowSwitchChange k .down1) s = .next (conclude (sent .down1 2 (some 0)))) ∧
      (before = .up1 ∨ before = .down1 →
        exec (.packWindowSwitchChange k .neutral) s = .next (conclude (sent .neutral 5 none))) ∧
      (∀ pos, (before = .up2 ∧ (pos = .up1 ∨ pos = .neutral)) ∨
          (before = .down2 ∧ (pos = .down1 ∨ pos = .neutral)) →
        exec (.packWindowSwitchChange k pos) s =
          .next (conclude { s with
            pins := { s.pins with packSwitch := s.pins.packSwitch.set k.val pos k.isLt }
            pack := { refresh := s.pack.refresh.set k.val none k.isLt } })) ∧
      (s.pack.refresh[k] ≠ none → before = .up1 →
        exec (.packRefreshExpiry k) s = .next (conclude (sent .up1 1 (some 0)))) ∧
      (s.pack.refresh[k] ≠ none → before = .down1 →
        exec (.packRefreshExpiry k) s = .next (conclude (sent .down1 2 (some 0)))))

/-- R103, R104, R108, R110, R111, R113, R115, R136, R140: the expiries of window drive: leases and holds, the
supply excursion, overcurrent, open load, the thermal ticks and the counter reset. A heat tick that takes H to
1000 while the bridge drives ends the move, and one whose 100 ms a run filled as it ended adds its 3 as well.
That H is tested at a heat tick and a start is the model's reading (notes/assumptions/25.md), and so is that a
lease that runs out in an end brake lets it run on (notes/assumptions/44.md). -/
def Obligations.WindowTimerRows : Prop :=
  ∀ s : State, hasWindow s = true →
    let w := s.window
    let dirCode : Byte := match w.move with
      | some m => (match m.dir with | .up => 0 | .down => 1)
      | none => 0
    let kindCode : Byte := match w.move with
      | some m => moveKindCode m.kind
      | none => 0
    (w.bridge ≠ .drive →
      exec .thermalCoolTick s =
        .next (conclude { s with window :=
          { w with heat := w.heat - 1, offTime := w.offTime - 2000000 } })) ∧
    (w.reversalReset ≠ none →
      exec .reversalCounterReset s =
        .next (conclude { s with window := { w with reversals := 0, reversalReset := none } })) ∧
    (active s = true →
      (∀ m, w.move = some m → m.kind = .manual → m.source = .pack →
        exec .packLeaseExpiry s = .next (conclude (endMove .yieldingStop false false .none s))) ∧
      (∀ m, w.move = some m → m.kind = .global →
        exec .globalLeaseExpiry s = .next (conclude (endMove .yieldingStop false false .none s))) ∧
      (w.spentHold ≠ none →
        exec .spentHoldExpiry s = .next (conclude { s with window := { w with spentHold := none } })) ∧
      (w.globalSpent ≠ none →
        exec .globalSpentHoldExpiry s =
          .next (conclude { s with window := { w with globalSpent := none } })) ∧
      (w.bridge = .drive →
        (w.excursion ≠ none →
          exec .supplyExcursion s = .next (conclude (endMove .stop false true .supply s))) ∧
        (exec .windowOvercurrent s =
          .next (conclude (captureAwake .windowOvercurrent dirCode kindCode (windowPercent w)
            (endMove .stop false true .halted s)))) ∧
        (∀ r e, w.run = some r → r.openLoad = some e →
          exec .windowOpenLoad s =
            .next (conclude (captureAwake .windowOpenLoad dirCode kindCode 0
              (endMove .stop false true .none s))))) ∧
      (let s1 : State :=
          { s with window :=
            { w with heat := min 1000 (w.heat + 3), onTime := w.onTime - 100000 } };
        (w.bridge = .drive ∨ 100000 ≤ w.onTime → w.heat + 3 < 1000 ∨ w.bridge ≠ .drive →
          exec .thermalHeatTick s = .next (conclude s1)) ∧
        (w.bridge = .drive → 1000 ≤ w.heat + 3 →
          exec .thermalHeatTick s = .next (conclude (endMove .stop false true .none s1))) ∧
        (w.bridge ≠ .drive → w.onTime < 100000 → exec .thermalHeatTick s = .next s)))

/-- R103, R104, R112, R115, R129 to R131, R140: the end of a running move: the bridge by the manner, the
record and the stop reason, the holds where the ending sets them, the reversal counter and its timer, and
the accumulators, which a move that ended at the top applies: the sectors of a SECTOR run, the bins of a BIN
run folded into sectors by their middles, and nothing of a NONE run. A change of the profile marks the
window record. That a STOP, a release or a lease expiry in an end brake, and a brake-stop in a running
brake, let the brake run on are the model's readings (notes/assumptions/44.md, 24.md), and that applied
accumulators are emptied at once is its choice (notes/assumptions/55.md). -/
def Obligations.MoveEnd : Prop :=
  (∀ (manner : Manner) (atTop spent : Bool) (reason : StopReason) (m : Move) (s : State),
    s.window.move = some m →
    let w := s.window
    let u := endMove manner atTop spent reason s
    let w1 : Window :=
      if (w.bridge = .drive ∧ manner ≠ .brakeStop) ∨ (w.bridge = .brake ∧ manner = .stop) then
        { w with bridge := .off, coast := some 0, run := none, excursion := none }
      else if w.bridge = .drive then
        { w with bridge := .brake, brakeTimer := 0, run := none, excursion := none }
      else w
    let top := w.pTop.getD 0
    let middles (i : Fin 32) : List (Fin 64) :=
      (List.finRange 64).filter fun b =>
        decide (1 ≤ (s.pinch.binAcc[b]).count) && decide (64 * b.val + 32 ≤ top) &&
          decide ((64 * b.val + 32) * 32 / (top + 1) = i.val)
    let learns (i : Fin 32) : Acc := match s.pinch.mode with
      | .none => ⟨0, 0⟩
      | .sector => s.pinch.sectorAcc[i]
      | .bin =>
        { sum := (s.pinch.sectorAcc[i]).sum + ((middles i).map fun b => (s.pinch.binAcc[b]).sum).sum
          count :=
            (s.pinch.sectorAcc[i]).count + ((middles i).map fun b => (s.pinch.binAcc[b]).count).sum }
    u = { s with window := u.window, pinch := u.pinch, settings := u.settings } ∧
    u.window =
      { w1 with
        move := none, stopReason := reason
        spentHold :=
          if spent = true ∧ m.kind = .manual ∧ m.source = .pack then some ⟨m.dir, 250000⟩ else w.spentHold
        globalSpent := if spent = true ∧ m.kind = .global then some ⟨m.dir, 600000⟩ else w.globalSpent
        reversals := if atTop = true then 0 else w.reversals
        reversalReset :=
          if atTop = true then none else if 0 < w.reversals then some 0 else w.reversalReset } ∧
    u.pinch = { emptied s.pinch with profile := u.pinch.profile } ∧
    (atTop = false → u.pinch.profile = s.pinch.profile) ∧
    (atTop = true →
      ∀ i : Fin 32, u.pinch.profile[i] = learnSector s.pinch.profile[i] (learns i)) ∧
    (u.pinch.profile = s.pinch.profile → u.settings = s.settings) ∧
    (u.pinch.profile ≠ s.pinch.profile → u.settings = (markRecord .windowRecord s).settings)) ∧
  (∀ (x : Sector) (a : Acc),
    (a.count ≤ 3 → learnSector x a = x) ∧
    (4 ≤ a.count → x.learn = 0 → learnSector x a = { n := a.sum / a.count, learn := 1 }) ∧
    (4 ≤ a.count → x.learn ≠ 0 →
      learnSector x a =
        { n := ((x.n : Int) + (((a.sum / a.count : Nat) : Int) - (x.n : Int)).tdiv 8).toNat
          learn := min 15 (x.learn + 1) }))

/-- R103 to R106, R115, R121, R134, R137: the tests of a command and what a command that passes them, or fails them,
does. That a move, other than a reversal, replaced at a direction change starts no counter reset timer is the
model's choice (notes/assumptions/43.md). -/
def Obligations.CommandPermission : Prop :=
  ∀ (c : Command) (s : State),
    let s1 : State := { s with window := clearHalted s.window }
    let ignition := (s.vehicle.ignition = .on ∨ s.vehicle.afterRun ≠ none) ∧ s.vehicle.ignition ≠ .crank
    let known := ∃ t, s.window.knowledge = .positioned ∧ s.window.pTop = some t ∧
      fullyLearned t s.pinch.profile = true
    let passes :=
      (c.dir = .up → s.crash.hold = false) ∧
      (c.dir = .up → ∀ m, s.window.move = some m → m.kind ≠ .reversal) ∧
      (c.kind = .auto → c.dir = .up → ∀ r, s.window.run = some r → r.override = false) ∧
      (c.dir = .up → c.kind = .auto ∨ c.kind = .global → known) ∧
      (c.kind ≠ .global → ignition) ∧
      90 ≤ s.supply.value ∧ s.supply.value ≤ 160 ∧
      (s.window.heat < 900 ∨ (c.kind = .global ∧ c.dir = .up))
    clearHalted s.window =
      { s.window with
        stopReason := if s.window.stopReason = .halted then .none else s.window.stopReason } ∧
    (∀ t : Nat,
      fullyLearned t s.pinch.profile = true ↔
        ∀ i : Fin 32, (if t < 816 then 0 else t - 800) * 32 / (t + 1) ≤ i.val →
          i.val ≤ (t - 16) * 32 / (t + 1) → 1 ≤ (s.pinch.profile[i]).learn) ∧
    c.move =
      { kind := c.kind, dir := c.dir, source := c.source
        lease :=
          if c.kind = .global then some 600000
          else if c.kind = .manual ∧ c.source = .pack then some 250000 else none
        target :=
          if c.kind = .auto ∨ c.kind = .global then (if c.dir = .up then .top else .bottom)
          else .none } ∧
    (permitted c s = true ↔ passes) ∧
    (reversing s.window = true ↔ ∃ m, s.window.move = some m ∧ m.kind = .reversal) ∧
    (passes → takeCommand c s = takeMove c.move s1) ∧
    (¬ passes → (∀ m, s.window.move = some m → m.kind ≠ .global) → takeCommand c s = s1) ∧
    (∀ m, ¬ passes → s.window.move = some m → m.kind = .global →
      takeCommand c s = endMove .brakeStop false false .none s1) ∧
    (let m := c.move;
      let taken : Window :=
        { s.window with
          move := some m, stopReason := .none
          reversalReset := if reversing s.window then some 0 else s.window.reversalReset };
      (s.window.bridge = .off → takeMove m s = startRun m { s with window := taken }) ∧
      (s.window.bridge = .brake → takeMove m s = { s with window := taken }) ∧
      (∀ r, s.window.bridge = .drive → s.window.run = some r → r.dir = m.dir →
        takeMove m s = { s with window := taken }) ∧
      (∀ r, s.window.bridge = .drive → s.window.run = some r → r.dir ≠ m.dir →
        takeMove m s =
          { s with
            window :=
              { taken with bridge := .brake, brakeTimer := 0, run := none, excursion := none }
            pinch := emptied s.pinch }))

/-- R119, R120, R122 to R124, R127, R128: one step of an upward run: the filtered period, blanking, the
expected period and the slowdown, the pinch counter with its declaration, and the accumulation of the
normalised period. R114, R117, R126, R139: a declared pinch brakes, starts the reversal with its stop step,
counts it, sends PINCH and discards the accumulators, while the pinch count stays as the run left it; the
reversal ends at its stop step. -/
def Obligations.PinchStep : Prop :=
  (∀ (x : StepReads) (m : Pinch),
    let T := max 1 (min 65535 (m.counter.getD 0 / 8))
    let F := match m.filtered with
      | none => T
      | some f => max 1 (min 65535 ((3 * f + T + 2) / 4))
    let u := pinchUpStep x m
    let blanked := m.blanking = true ∧ (m.stepCount + 1 ≤ 24 ∨ x.ramp < 400)
    let fb : Fallback :=
      if m.blanking = true then { period := F, supply := x.supply }
      else m.fallback.getD { period := F, supply := x.supply }
    let sector := m.profile[capFin 31 (x.p * 32 / (x.pTop + 1))]
    let E := max 1 (min 65535
      (if 1 ≤ sector.learn then (sector.n * 130 + x.supply / 2) / x.supply
       else (fb.period * fb.supply + x.supply / 2) / x.supply))
    let tested := x.knowledge = .positioned ∧
      ((if x.pTop < 816 then 0 else x.pTop - 800) ≤ x.p ∧ x.p + 16 ≤ x.pTop) ∧ x.override = false
    let norm := max 1 (min 65535 ((F * x.supply + 65) / 130))
    u.1.filtered = some F ∧ u.1.counter = some 0 ∧ u.1.stepCount = min 25 (m.stepCount + 1) ∧
    u.1.profile = m.profile ∧ u.1.mode = m.mode ∧
    (blanked → u.2 = false ∧ u.1.blanking = true ∧ u.1.count = m.count ∧ u.1.fallback = m.fallback ∧
      u.1.sectorAcc = m.sectorAcc ∧ u.1.binAcc = m.binAcc ∧ u.1.holding = m.holding) ∧
    (¬ blanked →
      u.1.blanking = false ∧ u.1.fallback = some fb ∧
      (tested → x.sTh ≤ slowdown F E → m.count < 2 → u.2 = false ∧ u.1.count = m.count + 1) ∧
      (tested → x.sTh ≤ slowdown F E → 2 ≤ m.count → u.2 = true ∧ u.1.count = 0) ∧
      (tested → slowdown F E < x.sTh → u.2 = false ∧ u.1.count = 0) ∧
      (¬ tested → u.2 = false ∧ u.1.count = 0) ∧
      (m.mode ≠ .sector ∨ x.pTop - 16 < x.p → u.1.sectorAcc = m.sectorAcc) ∧
      (m.mode = .sector → x.p ≤ x.pTop - 16 →
        let i := capFin 31 (x.p * 32 / (x.pTop + 1))
        u.1.sectorAcc =
          m.sectorAcc.set i.val
            { sum := (m.sectorAcc[i]).sum + norm, count := (m.sectorAcc[i]).count + 1 } i.isLt) ∧
      (m.mode ≠ .bin → u.1.binAcc = m.binAcc ∧ u.1.holding = m.holding) ∧
      (m.mode = .bin → m.holding.length < 16 →
        u.1.binAcc = m.binAcc ∧ u.1.holding = m.holding ++ [(capFin 63 (x.p / 64), norm)]) ∧
      (∀ b n0 rest, m.mode = .bin → m.holding = (b, n0) :: rest → 15 ≤ rest.length →
        u.1.binAcc =
          m.binAcc.set b.val
            { sum := (m.binAcc[b]).sum + n0, count := (m.binAcc[b]).count + 1 } b.isLt ∧
        u.1.holding = rest ++ [(capFin 63 (x.p / 64), norm)]))) ∧
  (∀ f e : Nat, slowdown f e = if f ≤ e then 0 else min 1023 ((f - e) * 256 / e)) ∧
  (∀ (s : State) (m : Move), s.window.move = some m →
    declarePinch s =
      (place
        { kind := 2, sender := BitVec.ofFin s.straps.position
          payload := [moveKindCode m.kind, windowPercent s.window] }
        { s with
          window :=
            { s.window with
              bridge := .brake, brakeTimer := 0, run := none, excursion := none
              move := some
                { kind := .reversal, dir := .down, source := .pinch, lease := none
                  target := .step (s.window.p - 200) }
              stopReason := .none, reversals := min 3 (s.window.reversals + 1), reversalReset := none
              spentHold :=
                if m.kind = .manual ∧ m.source = .pack then some ⟨m.dir, 250000⟩
                else s.window.spentHold
              globalSpent := s.window.globalSpent }
          pinch := emptied s.pinch }).1) ∧
  (∀ s : State,
    (∀ m q, s.window.move = some m → m.kind = .reversal → m.target = .step q → s.window.p ≤ q →
      reversalStep s = endMove .stop false false .none s) ∧
    ((∀ m q, s.window.move = some m → m.kind = .reversal → m.target = .step q → q < s.window.p) →
      reversalStep s = s))

/-! ## Touch and search -/

/-- R142, R143, R145 to R152, R155, R158: scan periods, measurements and the stuck touch. R143, R145 to R147:
what a measurement does to its electrode record (a stuck touch does not end in a pause, R149): dropped with TOUCH_OVERFLOW, discarded, the first baseline, a
RELEASED electrode that counts toward TOUCHED or tracks, and a TOUCHED one that counts toward RELEASED. R150:
the first count of an electrode in SLEEP wakes the station. R151, R152, R155, R158: a touch is ignored under
its tests, or else reaches the release record or the search unit, where it starts a search or gives its zone to
a running one. What a measurement in progress at a wake does is the model's reading (notes/assumptions/40.md).
-/
def Obligations.TouchRows : Prop :=
  (∀ (s : State) (i : Fin 3),
     measured s i = true ↔ operating s = true ∧ (s.straps.position = 4 ↔ i = 2)) ∧
  (∀ s : State, operating s = true →
     (s.touch.measuring = none →
       exec .scanPeriodStart s =
         .next (conclude { s with touch :=
           { s.touch with
             scanElapsed := 0, cutShort := false, measureElapsed := 0
             scanLength := if s.power.asleep then 100000 else 10000
             measuring :=
               if s.touch.paused then none
               else if s.straps.position = 4 then some 2 else some 0 } })) ∧
     (∀ (i : Fin 3) (n : Nat), s.touch.measuring = some i →
       let s1 := measure i n s
       exec (.measurementEnd n) s =
         .next (conclude { s1 with touch :=
           { s1.touch with
             measureElapsed := 0
             measuring :=
               if s1.touch.cutShort = true ∨ s1.touch.paused = true then none
               else if s.straps.position = 4 then (if i = 2 then none else some 2)
               else if i = 0 then some 1 else none } })) ∧
     (∀ i : Fin 3, s.touch.paused = true → exec (.touchStuckExpiry i) s = .next s) ∧
     (∀ i : Fin 3, measured s i = true → s.touch.paused = false →
       (s.touch.electrodes[i]).touched = true →
       let e := s.touch.electrodes[i]
       exec (.touchStuckExpiry i) s =
         .next (conclude (onElectrode i (fun _ =>
           { e with baseline := some (16 * e.count), touched := false, onCount := 0, offCount := 0,
                    touchTime := none, wakeMark := false }) s)))) ∧
  ((∀ (i : Fin 3) (n : Nat) (s : State),
     let e := s.touch.electrodes[i]
     (4096 ≤ n → e.overflow = true → measure i n s = s) ∧
     (4096 ≤ n → e.overflow = false →
       measure i n s =
         capture .touchOverflow (BitVec.ofNat 8 (i.val + 1)) (if e.touched then 1 else 0) 0
           (onElectrode i (fun e => { e with overflow := true }) s)) ∧
     (n < 4096 → e.discard = true →
       measure i n s = onElectrode i (fun e => { e with discard := false }) s) ∧
     (n < 4096 → e.discard = false →
       measure i n s = afterKept i e (onElectrode i (kept s.power.asleep n) s))) ∧
   (∀ (asleep : Bool) (c : Nat) (e : Electrode),
     (e.baseline = none → kept asleep c e = { e with count := c, baseline := some (16 * c) }) ∧
     (∀ b, e.baseline = some b → e.touched = false →
       let D : Int := ((b / 16 : Nat) : Int) - (c : Int)
       (40 ≤ D → e.onCount < 2 →
         kept asleep c e =
           { e with count := c, onCount := e.onCount + 1,
                    wakeMark := e.wakeMark || (asleep && e.onCount == 0) }) ∧
       (40 ≤ D → 2 ≤ e.onCount →
         kept asleep c e =
           { e with count := c, touched := true, onCount := 0, offCount := 0, touchTime := some 0,
                    wakeMark := false }) ∧
       (D < 40 →
         kept asleep c e =
           { e with count := c, onCount := 0, wakeMark := false,
                    baseline := some ((b : Int) + (16 * (c : Int) - (b : Int)).tdiv 64).toNat })) ∧
     (∀ b, e.baseline = some b → e.touched = true →
       let D : Int := ((b / 16 : Nat) : Int) - (c : Int)
       (25 ≤ D → kept asleep c e = { e with count := c, offCount := 0 }) ∧
       (D < 25 → e.offCount < 2 →
         kept asleep c e = { e with count := c, offCount := e.offCount + 1 }) ∧
       (D < 25 → 2 ≤ e.offCount →
         kept asleep c e =
           { e with count := c, touched := false, onCount := 0, offCount := 0, touchTime := none,
                    wakeMark := false })))) ∧
  (∀ (i : Fin 3) (before : Electrode) (s : State),
     let e := s.touch.electrodes[i]
     let zone : Zone := match i with | 0 => .unlock | 1 => .lock | 2 => .release
     let touches := before.touched = false ∧ e.touched = true
     let first := s.power.asleep = true ∧ before.onCount = 0 ∧ e.onCount = 1
     (touches → afterKept i before s = touchEvent zone before.wakeMark s) ∧
     (¬ touches → first → afterKept i before s = placeState (woken s)) ∧
     (¬ touches → ¬ first → afterKept i before s = s)) ∧
  (∀ (z : Zone) (woke : Bool) (s : State),
     let ignored := s.vehicle.ignition = .on ∨ s.vehicle.ignition = .crank ∨ s.crash.hold = true ∨
       s.supply.value < 90 ∨ (z = .lock ∧ s.pins.doorOpen = true)
     let begun : State :=
       { s with search :=
         { s.search with
           verdicts := Vector.replicate 4 none, number := 0, touchZone := some z, coilOpen := false
           phase := .pending, awaited := false } }
     (ignored → touchEvent z woke s = s) ∧
     (¬ ignored → z = .release → s.latch.target = .unlocked → touchEvent z woke s = releaseRequest s) ∧
     (¬ ignored → z ≠ .release ∨ s.latch.target ≠ .unlocked →
       (s.search.phase = .idle → woke = true →
         touchEvent z woke s =
           { begun with search := { begun.search with wakeWait := .first 0 } }) ∧
       (s.search.phase = .idle → woke = false → touchEvent z woke s = placeSearch begun) ∧
       (s.search.phase ≠ .idle → s.search.touchZone = none →
         touchEvent z woke s = { s with search := { s.search with touchZone := some z } }) ∧
       (s.search.phase ≠ .idle → s.search.touchZone ≠ none → touchEvent z woke s = s)))

/-- R149, R154 to R156, R159 to R162, R165: the wake wait, the own SEARCH with its number, zone and slot set,
refused or dropped at once abandoned, the slots, COLLECTING, the decision at the end of a search, and the
ranked verdict of a list. The fields that hold a slot in drive and the slots passed are the model's
(notes/assumptions/31.md). -/
def Obligations.SearchRows : Prop :=
  (∀ s : State, active s = true →
    (∀ t, s.search.wakeWait = .first t →
      ((∃ e ∈ s.link.tx, e.telegram.kind = 8) →
        exec .wakeWaitEnd s =
          .next (conclude { s with search := { s.search with wakeWait := .awaitState } })) ∧
      ((∀ e ∈ s.link.tx, e.telegram.kind ≠ 8) →
        exec .wakeWaitEnd s = .next (conclude (placeSearch s)))) ∧
    (∀ t, s.search.wakeWait = .second t → exec .wakeWaitEnd s = .next (conclude (placeSearch s))) ∧
    (∀ k : Fin 6, s.search.phase = .inFlight → min k.val 4 = s.straps.position.val →
      s.search.nextSlot ≤ k.val →
      exec (.slotStart k) s =
        .next (conclude { s with search :=
          { s.search with
            nextSlot := k.val + 1
            driving :=
              if s.search.slots.getLsbD k.val = true ∧ 90 ≤ s.supply.value then some k else none } })) ∧
    (∀ k : Fin 6, s.search.driving = some k →
      exec (.slotEnd true) s =
        .next (conclude { s with search := { s.search with driving := none } }) ∧
      exec (.slotEnd false) s =
        .next (conclude (captureAwake .lfOpen (BitVec.ofNat 8 k.val) s.search.number 0
          { s with search := { s.search with driving := none, coilOpen := true } }))) ∧
    (∀ (k : Fin 6) (b : Byte),
      lfBurst s = some (k, b) ↔
        s.search.driving = some k ∧ b = s.search.number ∧ s.search.phase = .inFlight ∧
          ∃ t, s.search.t0 = some t ∧ s.now < t + 3000 * (k.val + 1)) ∧
    (s.search.phase = .inFlight →
      exec .collectingStart s =
        .next (conclude { s with
          search := { s.search with phase := .collecting }
          touch :=
            { s.touch with
              paused := false
              electrodes := vmap (fun e => { e with discard := true }) s.touch.electrodes } })) ∧
    (s.search.phase = .collecting → exec .collectionEnd s = .next (conclude (endCollection s)))) ∧
  (∀ s : State,
    let list := s.search.verdicts.toArray.toList.filterMap id
    let own : Fin 5 := capFin 4 s.straps.position.val
    let ended (s1 : State) (v : Verdict) : State :=
      { s1 with search :=
        { s1.search with lastVerdict := v, touchZone := none, phase := .idle, driving := none } }
    (s.search.touchZone = none → endCollection s = ended s (rankedVerdict list)) ∧
    (∀ z, s.search.touchZone = some z →
      (z = .lock → .inside ∈ list →
        endCollection s =
          ended { s with lock := { s.lock with refusal := .keyInside } } .inside) ∧
      (z ≠ .lock ∨ .inside ∉ list →
        let matched (v : Verdict) : State :=
          ended (match z with
            | .unlock => placeRequest .unlock .keyless s.search.number s
            | .lock => placeRequest .lock .keyless s.search.number s
            | .release => releaseRequest s) v
        (.outsideAt own ∈ list → endCollection s = matched (.outsideAt own)) ∧
        (.outsideAt own ∉ list → .outsideNear own ∈ list →
          endCollection s = matched (.outsideNear own)) ∧
        (.outsideAt own ∉ list → .outsideNear own ∉ list →
          endCollection s = ended s (rankedVerdict list))))) ∧
  (∀ s : State,
    let t : Telegram :=
      { kind := 5, sender := BitVec.ofFin s.straps.position
        payload :=
          [BitVec.ofNat 8 (s.straps.position.val * 32 + s.search.localCount),
            (match s.search.touchZone with
              | none => 0 | some .unlock => 1 | some .lock => 2 | some .release => 3),
            (match s.straps.body with | .fiveDoor => 0x3F | .threeDoor => 0x33)] }
    let r := place t
      { s with search :=
        { s.search with
          localCount := if s.search.localCount < 31 then s.search.localCount + 1 else 1
          awaited := true, wakeWait := .stopped } }
    (r.2 = .taken → placeSearch s = r.1) ∧ (r.2 ≠ .taken → placeSearch s = abandoned r.1)) ∧
  (∀ l : List Verdict,
    (.inside ∈ l → rankedVerdict l = .inside) ∧
    (∀ pre d post, .inside ∉ l → l = pre ++ .outsideAt d :: post → (∀ k, .outsideAt k ∉ pre) →
      rankedVerdict l = .outsideAt d) ∧
    (∀ pre d post, .inside ∉ l → (∀ k, .outsideAt k ∉ l) → l = pre ++ .outsideNear d :: post →
      (∀ k, .outsideNear k ∉ pre) → rankedVerdict l = .outsideNear d) ∧
    (.inside ∉ l → (∀ k, .outsideAt k ∉ l ∧ .outsideNear k ∉ l) → rankedVerdict l = .notFound))

/-- R163, R164: the adjusted reading of a slot, 0 where it is excluded or the fob heard nothing, and the
verdict for the six adjusted readings a₀ to a₅. -/
def Obligations.Localisation : Prop :=
  (∀ (s : State) (readings : List Byte) (k : Fin 6),
    let owner : Fin 8 := ⟨min k.val 4, by omega⟩
    let coilOpen :=
      (owner = s.straps.position ∧ s.search.coilOpen = true) ∨
      (owner ≠ s.straps.position ∧
        ∃ c, (s.roster.peers[owner]).lastState = some c ∧ c.summary.getLsbD 13 = true)
    let excluded := s.search.slots.getLsbD k.val = false ∨
      expectedStation s.straps.body owner.val = false ∨ coilOpen
    let r : Nat := (readings.getD k.val 0).toNat
    (excluded ∨ r = 0 → adjusted s readings k = 0) ∧
    (¬ excluded → r ≠ 0 →
      (adjusted s readings k : Int) =
        max 1 (min 255 ((r : Int) + s.settings.options.offsets[k])))) ∧
  (∀ (s : State) (readings : List Byte),
    verdictOfReadings s readings =
      locate
        [adjusted s readings 0, adjusted s readings 1, adjusted s readings 2, adjusted s readings 3,
          adjusted s readings 4]
        (adjusted s readings 5)) ∧
  (∀ (a : Fin 5 → Nat) (cabin : Nat),
    let doors := [a 0, a 1, a 2, a 3, a 4]
    let inside := 120 ≤ cabin ∧ ∀ k, a k ≤ cabin + 12
    (inside → locate doors cabin = .inside) ∧
    (¬ inside →
      ∀ d : Fin 5, (∀ k, a k ≤ a d) → (∀ k, k < d → a k < a d) →
        (60 ≤ a d → (∀ k, k ≠ d → a k + 8 ≤ a d) → locate doors cabin = .outsideAt d) ∧
        (60 ≤ a d → (∃ k, k ≠ d ∧ a d < a k + 8) → locate doors cabin = .outsideNear d) ∧
        (a d < 60 → locate doors cabin = .notFound)))

/-! ## Stored settings -/

/-- R175, R177, R183, R184: the mark of a record for writing, and the start and the end of a write of a stored
record, with its check and its service answer. A record enters the pending-write set once, behind those
marked before it, and keeps its place when it is marked again (R184). The check is the CRC-8 of R3 over the record's bytes: the option set as the OPTION argument
orders them (section 1.9), the window record and the fob entry in the order in which section 12.4 names their
contents. The bytes of these two, and what a failed or torn write leaves, are the model's choices
(notes/assumptions/17.md, 18.md). -/
def Obligations.SettingsRows : Prop :=
  (∀ (r : RecordName) (s : State),
    (r ∈ s.settings.writes → markRecord r s = s) ∧
    (r ∉ s.settings.writes →
      markRecord r s =
        { s with settings := { s.settings with writes := s.settings.writes ++ [r] } })) ∧
  (∀ s : State, operating s = true →
    (∀ r rest, s.settings.write = none → s.settings.writes = r :: rest →
      let contents : RecordContents := match r with
        | .optionSet => .optionSet s.settings.optionImage
        | .windowRecord =>
          .windowRecord
            { knowledge := s.window.knowledge, pTop := s.window.pTop
              restPosition := s.window.restPosition, profile := s.pinch.profile
              movingMarker := s.window.movingMarker }
        | .fobEntry f =>
          .fobEntry f
            { enrolled := (s.fobs[f]).enrolled, key := (s.fobs[f]).key, counter := (s.fobs[f]).counter }
      exec .nvmWriteStart s =
        .next (conclude { s with settings :=
          { s.settings with
            writes := rest
            write := some { contents := contents, elapsed := 0 }
            awaited := s.settings.awaited.map fun a =>
              if a.record = r then { a with started := true } else a } })) ∧
    (∀ w ok, s.settings.write = some w →
      let s1 : State :=
        { s with settings :=
          { s.settings with write := none, store := storeRecord w.contents ok s.settings.store } }
      let code : Byte := match w.contents with
        | .optionSet _ => 0
        | .windowRecord _ => 1
        | .fobEntry f _ => BitVec.ofNat 8 (2 + f.val)
      let s2 := if ok = true then s1 else capture .nvmWrite code 0 0 s1
      ((∀ a, s.settings.awaited = some a → ¬ (a.record = w.contents.name ∧ a.started = true)) →
        exec (.nvmWriteEnd ok) s = .next (conclude s2)) ∧
      (∀ a, s.settings.awaited = some a → a.record = w.contents.name → a.started = true →
        exec (.nvmWriteEnd ok) s =
          .next (conclude (place
            { kind := 11, sender := BitVec.ofFin s.straps.position
              payload := [subtypeCode a.subtype, if ok then 1 else 3] }
            { s2 with settings := { s2.settings with awaited := none } }).1)))) ∧
  (∀ (s : State),
    (s.settings.write = none → tornStore s = s.settings.store) ∧
    (∀ w, s.settings.write = some w →
      tornStore s = storeRecord w.contents false s.settings.store)) ∧
  (∀ (st : Store) (ok : Bool) (c : RecordContents),
    let check : Byte := if ok = true then recordCheck c else ~~~ recordCheck c
    (∀ o, c = .optionSet o → storeRecord c ok st = { st with options := o, optionsCheck := check }) ∧
    (∀ w, c = .windowRecord w → storeRecord c ok st = { st with window := w, windowCheck := check }) ∧
    (∀ f e, c = .fobEntry f e →
      storeRecord c ok st =
        { st with
          fobs := st.fobs.set f.val e f.isLt, fobsCheck := st.fobsCheck.set f.val check f.isLt })) ∧
  (∀ c : RecordContents,
    let two (n : Nat) : List Byte := [BitVec.ofNat 8 (n / 256), BitVec.ofNat 8 n]
    let bytes : List Byte := match c with
      | .optionSet o =>
        [BitVec.ofNat 8 ((if o.selective = true then 1 else 0) + (if o.driveAway = true then 2 else 0)),
          (if o.regulate = true then 1 else 0), BitVec.ofNat 8 o.relock, BitVec.ofNat 8 o.sTh] ++
          (List.finRange 6).map fun k => BitVec.ofInt 8 o.offsets[k]
      | .windowRecord w =>
        [(match w.knowledge with | .unpositioned => 0 | .bottomKnown => 1 | .positioned => 2),
          (match w.pTop with | some _ => 1 | none => 0)] ++
          two (w.pTop.getD 0) ++ two w.restPosition ++
          ((List.finRange 32).flatMap fun k =>
            two (w.profile[k]).n ++ [BitVec.ofNat 8 (w.profile[k]).learn]) ++
          [if w.movingMarker = true then 1 else 0]
      | .fobEntry _ e =>
        [(if e.enrolled = true then 1 else 0), e.key.extractLsb' 24 8, e.key.extractLsb' 16 8,
          e.key.extractLsb' 8 8, e.key.extractLsb' 0 8, e.counter.extractLsb' 16 8,
          e.counter.extractLsb' 8 8, e.counter.extractLsb' 0 8]
    recordCheck c = crc8 (bytes.flatMap bitsMsb))
end

