-- ==== Sys2Proof/Laws/State.lean ====
section
/-! SUPPORT. One lemma per state field and named update, so that no later proof unfolds a record update. -/

namespace Sys2Proof.Machine

variable (s : State)

@[simp] theorem onWindow_pending (f : Window → Window) : (onWindow f s).pending = s.pending := rfl
@[simp] theorem onWindow_now (f : Window → Window) : (onWindow f s).now = s.now := rfl
@[simp] theorem onWindow_straps (f : Window → Window) : (onWindow f s).straps = s.straps := rfl
@[simp] theorem onWindow_pins (f : Window → Window) : (onWindow f s).pins = s.pins := rfl
@[simp] theorem onWindow_link (f : Window → Window) : (onWindow f s).link = s.link := rfl
@[simp] theorem onWindow_roster (f : Window → Window) : (onWindow f s).roster = s.roster := rfl
@[simp] theorem onWindow_vehicle (f : Window → Window) : (onWindow f s).vehicle = s.vehicle := rfl
@[simp] theorem onWindow_latch (f : Window → Window) : (onWindow f s).latch = s.latch := rfl
@[simp] theorem onWindow_lock (f : Window → Window) : (onWindow f s).lock = s.lock := rfl
@[simp] theorem onWindow_release (f : Window → Window) : (onWindow f s).release = s.release := rfl
@[simp] theorem onWindow_child (f : Window → Window) : (onWindow f s).child = s.child := rfl
@[simp] theorem onWindow_crash (f : Window → Window) : (onWindow f s).crash = s.crash := rfl
@[simp] theorem onWindow_window (f : Window → Window) : (onWindow f s).window = f s.window := rfl
@[simp] theorem onWindow_pack (f : Window → Window) : (onWindow f s).pack = s.pack := rfl
@[simp] theorem onWindow_pinch (f : Window → Window) : (onWindow f s).pinch = s.pinch := rfl
@[simp] theorem onWindow_touch (f : Window → Window) : (onWindow f s).touch = s.touch := rfl
@[simp] theorem onWindow_search (f : Window → Window) : (onWindow f s).search = s.search := rfl
@[simp] theorem onWindow_fobs (f : Window → Window) : (onWindow f s).fobs = s.fobs := rfl
@[simp] theorem onWindow_rf (f : Window → Window) : (onWindow f s).rf = s.rf := rfl
@[simp] theorem onWindow_supply (f : Window → Window) : (onWindow f s).supply = s.supply := rfl
@[simp] theorem onWindow_power (f : Window → Window) : (onWindow f s).power = s.power := rfl
@[simp] theorem onWindow_faults (f : Window → Window) : (onWindow f s).faults = s.faults := rfl
@[simp] theorem onWindow_settings (f : Window → Window) : (onWindow f s).settings = s.settings := rfl

@[simp] theorem onPinch_pending (f : Pinch → Pinch) : (onPinch f s).pending = s.pending := rfl
@[simp] theorem onPinch_now (f : Pinch → Pinch) : (onPinch f s).now = s.now := rfl
@[simp] theorem onPinch_straps (f : Pinch → Pinch) : (onPinch f s).straps = s.straps := rfl
@[simp] theorem onPinch_pins (f : Pinch → Pinch) : (onPinch f s).pins = s.pins := rfl
@[simp] theorem onPinch_link (f : Pinch → Pinch) : (onPinch f s).link = s.link := rfl
@[simp] theorem onPinch_roster (f : Pinch → Pinch) : (onPinch f s).roster = s.roster := rfl
@[simp] theorem onPinch_vehicle (f : Pinch → Pinch) : (onPinch f s).vehicle = s.vehicle := rfl
@[simp] theorem onPinch_latch (f : Pinch → Pinch) : (onPinch f s).latch = s.latch := rfl
@[simp] theorem onPinch_lock (f : Pinch → Pinch) : (onPinch f s).lock = s.lock := rfl
@[simp] theorem onPinch_release (f : Pinch → Pinch) : (onPinch f s).release = s.release := rfl
@[simp] theorem onPinch_child (f : Pinch → Pinch) : (onPinch f s).child = s.child := rfl
@[simp] theorem onPinch_crash (f : Pinch → Pinch) : (onPinch f s).crash = s.crash := rfl
@[simp] theorem onPinch_window (f : Pinch → Pinch) : (onPinch f s).window = s.window := rfl
@[simp] theorem onPinch_pack (f : Pinch → Pinch) : (onPinch f s).pack = s.pack := rfl
@[simp] theorem onPinch_pinch (f : Pinch → Pinch) : (onPinch f s).pinch = f s.pinch := rfl
@[simp] theorem onPinch_touch (f : Pinch → Pinch) : (onPinch f s).touch = s.touch := rfl
@[simp] theorem onPinch_search (f : Pinch → Pinch) : (onPinch f s).search = s.search := rfl
@[simp] theorem onPinch_fobs (f : Pinch → Pinch) : (onPinch f s).fobs = s.fobs := rfl
@[simp] theorem onPinch_rf (f : Pinch → Pinch) : (onPinch f s).rf = s.rf := rfl
@[simp] theorem onPinch_supply (f : Pinch → Pinch) : (onPinch f s).supply = s.supply := rfl
@[simp] theorem onPinch_power (f : Pinch → Pinch) : (onPinch f s).power = s.power := rfl
@[simp] theorem onPinch_faults (f : Pinch → Pinch) : (onPinch f s).faults = s.faults := rfl
@[simp] theorem onPinch_settings (f : Pinch → Pinch) : (onPinch f s).settings = s.settings := rfl

@[simp] theorem onSearch_pending (f : Search → Search) : (onSearch f s).pending = s.pending := rfl
@[simp] theorem onSearch_now (f : Search → Search) : (onSearch f s).now = s.now := rfl
@[simp] theorem onSearch_straps (f : Search → Search) : (onSearch f s).straps = s.straps := rfl
@[simp] theorem onSearch_pins (f : Search → Search) : (onSearch f s).pins = s.pins := rfl
@[simp] theorem onSearch_link (f : Search → Search) : (onSearch f s).link = s.link := rfl
@[simp] theorem onSearch_roster (f : Search → Search) : (onSearch f s).roster = s.roster := rfl
@[simp] theorem onSearch_vehicle (f : Search → Search) : (onSearch f s).vehicle = s.vehicle := rfl
@[simp] theorem onSearch_latch (f : Search → Search) : (onSearch f s).latch = s.latch := rfl
@[simp] theorem onSearch_lock (f : Search → Search) : (onSearch f s).lock = s.lock := rfl
@[simp] theorem onSearch_release (f : Search → Search) : (onSearch f s).release = s.release := rfl
@[simp] theorem onSearch_child (f : Search → Search) : (onSearch f s).child = s.child := rfl
@[simp] theorem onSearch_crash (f : Search → Search) : (onSearch f s).crash = s.crash := rfl
@[simp] theorem onSearch_window (f : Search → Search) : (onSearch f s).window = s.window := rfl
@[simp] theorem onSearch_pack (f : Search → Search) : (onSearch f s).pack = s.pack := rfl
@[simp] theorem onSearch_pinch (f : Search → Search) : (onSearch f s).pinch = s.pinch := rfl
@[simp] theorem onSearch_touch (f : Search → Search) : (onSearch f s).touch = s.touch := rfl
@[simp] theorem onSearch_search (f : Search → Search) : (onSearch f s).search = f s.search := rfl
@[simp] theorem onSearch_fobs (f : Search → Search) : (onSearch f s).fobs = s.fobs := rfl
@[simp] theorem onSearch_rf (f : Search → Search) : (onSearch f s).rf = s.rf := rfl
@[simp] theorem onSearch_supply (f : Search → Search) : (onSearch f s).supply = s.supply := rfl
@[simp] theorem onSearch_power (f : Search → Search) : (onSearch f s).power = s.power := rfl
@[simp] theorem onSearch_faults (f : Search → Search) : (onSearch f s).faults = s.faults := rfl
@[simp] theorem onSearch_settings (f : Search → Search) : (onSearch f s).settings = s.settings := rfl

@[simp] theorem onLink_pending (f : Link → Link) : (onLink f s).pending = s.pending := rfl
@[simp] theorem onLink_now (f : Link → Link) : (onLink f s).now = s.now := rfl
@[simp] theorem onLink_straps (f : Link → Link) : (onLink f s).straps = s.straps := rfl
@[simp] theorem onLink_pins (f : Link → Link) : (onLink f s).pins = s.pins := rfl
@[simp] theorem onLink_link (f : Link → Link) : (onLink f s).link = f s.link := rfl
@[simp] theorem onLink_roster (f : Link → Link) : (onLink f s).roster = s.roster := rfl
@[simp] theorem onLink_vehicle (f : Link → Link) : (onLink f s).vehicle = s.vehicle := rfl
@[simp] theorem onLink_latch (f : Link → Link) : (onLink f s).latch = s.latch := rfl
@[simp] theorem onLink_lock (f : Link → Link) : (onLink f s).lock = s.lock := rfl
@[simp] theorem onLink_release (f : Link → Link) : (onLink f s).release = s.release := rfl
@[simp] theorem onLink_child (f : Link → Link) : (onLink f s).child = s.child := rfl
@[simp] theorem onLink_crash (f : Link → Link) : (onLink f s).crash = s.crash := rfl
@[simp] theorem onLink_window (f : Link → Link) : (onLink f s).window = s.window := rfl
@[simp] theorem onLink_pack (f : Link → Link) : (onLink f s).pack = s.pack := rfl
@[simp] theorem onLink_pinch (f : Link → Link) : (onLink f s).pinch = s.pinch := rfl
@[simp] theorem onLink_touch (f : Link → Link) : (onLink f s).touch = s.touch := rfl
@[simp] theorem onLink_search (f : Link → Link) : (onLink f s).search = s.search := rfl
@[simp] theorem onLink_fobs (f : Link → Link) : (onLink f s).fobs = s.fobs := rfl
@[simp] theorem onLink_rf (f : Link → Link) : (onLink f s).rf = s.rf := rfl
@[simp] theorem onLink_supply (f : Link → Link) : (onLink f s).supply = s.supply := rfl
@[simp] theorem onLink_power (f : Link → Link) : (onLink f s).power = s.power := rfl
@[simp] theorem onLink_faults (f : Link → Link) : (onLink f s).faults = s.faults := rfl
@[simp] theorem onLink_settings (f : Link → Link) : (onLink f s).settings = s.settings := rfl

@[simp] theorem onRf_pending (f : Rf → Rf) : (onRf f s).pending = s.pending := rfl
@[simp] theorem onRf_now (f : Rf → Rf) : (onRf f s).now = s.now := rfl
@[simp] theorem onRf_straps (f : Rf → Rf) : (onRf f s).straps = s.straps := rfl
@[simp] theorem onRf_pins (f : Rf → Rf) : (onRf f s).pins = s.pins := rfl
@[simp] theorem onRf_link (f : Rf → Rf) : (onRf f s).link = s.link := rfl
@[simp] theorem onRf_roster (f : Rf → Rf) : (onRf f s).roster = s.roster := rfl
@[simp] theorem onRf_vehicle (f : Rf → Rf) : (onRf f s).vehicle = s.vehicle := rfl
@[simp] theorem onRf_latch (f : Rf → Rf) : (onRf f s).latch = s.latch := rfl
@[simp] theorem onRf_lock (f : Rf → Rf) : (onRf f s).lock = s.lock := rfl
@[simp] theorem onRf_release (f : Rf → Rf) : (onRf f s).release = s.release := rfl
@[simp] theorem onRf_child (f : Rf → Rf) : (onRf f s).child = s.child := rfl
@[simp] theorem onRf_crash (f : Rf → Rf) : (onRf f s).crash = s.crash := rfl
@[simp] theorem onRf_window (f : Rf → Rf) : (onRf f s).window = s.window := rfl
@[simp] theorem onRf_pack (f : Rf → Rf) : (onRf f s).pack = s.pack := rfl
@[simp] theorem onRf_pinch (f : Rf → Rf) : (onRf f s).pinch = s.pinch := rfl
@[simp] theorem onRf_touch (f : Rf → Rf) : (onRf f s).touch = s.touch := rfl
@[simp] theorem onRf_search (f : Rf → Rf) : (onRf f s).search = s.search := rfl
@[simp] theorem onRf_fobs (f : Rf → Rf) : (onRf f s).fobs = s.fobs := rfl
@[simp] theorem onRf_rf (f : Rf → Rf) : (onRf f s).rf = f s.rf := rfl
@[simp] theorem onRf_supply (f : Rf → Rf) : (onRf f s).supply = s.supply := rfl
@[simp] theorem onRf_power (f : Rf → Rf) : (onRf f s).power = s.power := rfl
@[simp] theorem onRf_faults (f : Rf → Rf) : (onRf f s).faults = s.faults := rfl
@[simp] theorem onRf_settings (f : Rf → Rf) : (onRf f s).settings = s.settings := rfl

@[simp] theorem markRecord_pending (r : RecordName) : (markRecord r s).pending = s.pending := rfl
@[simp] theorem markRecord_now (r : RecordName) : (markRecord r s).now = s.now := rfl
@[simp] theorem markRecord_straps (r : RecordName) : (markRecord r s).straps = s.straps := rfl
@[simp] theorem markRecord_pins (r : RecordName) : (markRecord r s).pins = s.pins := rfl
@[simp] theorem markRecord_link (r : RecordName) : (markRecord r s).link = s.link := rfl
@[simp] theorem markRecord_roster (r : RecordName) : (markRecord r s).roster = s.roster := rfl
@[simp] theorem markRecord_vehicle (r : RecordName) : (markRecord r s).vehicle = s.vehicle := rfl
@[simp] theorem markRecord_latch (r : RecordName) : (markRecord r s).latch = s.latch := rfl
@[simp] theorem markRecord_lock (r : RecordName) : (markRecord r s).lock = s.lock := rfl
@[simp] theorem markRecord_release (r : RecordName) : (markRecord r s).release = s.release := rfl
@[simp] theorem markRecord_child (r : RecordName) : (markRecord r s).child = s.child := rfl
@[simp] theorem markRecord_crash (r : RecordName) : (markRecord r s).crash = s.crash := rfl
@[simp] theorem markRecord_window (r : RecordName) : (markRecord r s).window = s.window := rfl
@[simp] theorem markRecord_pack (r : RecordName) : (markRecord r s).pack = s.pack := rfl
@[simp] theorem markRecord_pinch (r : RecordName) : (markRecord r s).pinch = s.pinch := rfl
@[simp] theorem markRecord_touch (r : RecordName) : (markRecord r s).touch = s.touch := rfl
@[simp] theorem markRecord_search (r : RecordName) : (markRecord r s).search = s.search := rfl
@[simp] theorem markRecord_fobs (r : RecordName) : (markRecord r s).fobs = s.fobs := rfl
@[simp] theorem markRecord_rf (r : RecordName) : (markRecord r s).rf = s.rf := rfl
@[simp] theorem markRecord_supply (r : RecordName) : (markRecord r s).supply = s.supply := rfl
@[simp] theorem markRecord_power (r : RecordName) : (markRecord r s).power = s.power := rfl
@[simp] theorem markRecord_faults (r : RecordName) : (markRecord r s).faults = s.faults := rfl

@[simp] theorem popRx_pending : (popRx s).pending = s.pending := rfl
@[simp] theorem popRx_now : (popRx s).now = s.now := rfl
@[simp] theorem popRx_straps : (popRx s).straps = s.straps := rfl
@[simp] theorem popRx_pins : (popRx s).pins = s.pins := rfl
@[simp] theorem popRx_link : (popRx s).link = linkTaken s.now s.link := rfl
@[simp] theorem popRx_roster : (popRx s).roster = s.roster := rfl
@[simp] theorem popRx_vehicle : (popRx s).vehicle = s.vehicle := rfl
@[simp] theorem popRx_latch : (popRx s).latch = s.latch := rfl
@[simp] theorem popRx_lock : (popRx s).lock = s.lock := rfl
@[simp] theorem popRx_release : (popRx s).release = s.release := rfl
@[simp] theorem popRx_child : (popRx s).child = s.child := rfl
@[simp] theorem popRx_crash : (popRx s).crash = s.crash := rfl
@[simp] theorem popRx_window : (popRx s).window = s.window := rfl
@[simp] theorem popRx_pack : (popRx s).pack = s.pack := rfl
@[simp] theorem popRx_pinch : (popRx s).pinch = s.pinch := rfl
@[simp] theorem popRx_touch : (popRx s).touch = s.touch := rfl
@[simp] theorem popRx_search : (popRx s).search = s.search := rfl
@[simp] theorem popRx_fobs : (popRx s).fobs = s.fobs := rfl
@[simp] theorem popRx_rf : (popRx s).rf = s.rf := rfl
@[simp] theorem popRx_supply : (popRx s).supply = s.supply := rfl
@[simp] theorem popRx_power : (popRx s).power = s.power := rfl
@[simp] theorem popRx_faults : (popRx s).faults = s.faults := rfl
@[simp] theorem popRx_settings : (popRx s).settings = s.settings := rfl

@[simp] theorem setRefresh_pending (k : Fin 4) (t : Option Nat) : (setRefresh k t s).pending = s.pending := rfl
@[simp] theorem setRefresh_now (k : Fin 4) (t : Option Nat) : (setRefresh k t s).now = s.now := rfl
@[simp] theorem setRefresh_straps (k : Fin 4) (t : Option Nat) : (setRefresh k t s).straps = s.straps := rfl
@[simp] theorem setRefresh_pins (k : Fin 4) (t : Option Nat) : (setRefresh k t s).pins = s.pins := rfl
@[simp] theorem setRefresh_link (k : Fin 4) (t : Option Nat) : (setRefresh k t s).link = s.link := rfl
@[simp] theorem setRefresh_roster (k : Fin 4) (t : Option Nat) : (setRefresh k t s).roster = s.roster := rfl
@[simp] theorem setRefresh_vehicle (k : Fin 4) (t : Option Nat) : (setRefresh k t s).vehicle = s.vehicle := rfl
@[simp] theorem setRefresh_latch (k : Fin 4) (t : Option Nat) : (setRefresh k t s).latch = s.latch := rfl
@[simp] theorem setRefresh_lock (k : Fin 4) (t : Option Nat) : (setRefresh k t s).lock = s.lock := rfl
@[simp] theorem setRefresh_release (k : Fin 4) (t : Option Nat) : (setRefresh k t s).release = s.release := rfl
@[simp] theorem setRefresh_child (k : Fin 4) (t : Option Nat) : (setRefresh k t s).child = s.child := rfl
@[simp] theorem setRefresh_crash (k : Fin 4) (t : Option Nat) : (setRefresh k t s).crash = s.crash := rfl
@[simp] theorem setRefresh_window (k : Fin 4) (t : Option Nat) : (setRefresh k t s).window = s.window := rfl
@[simp] theorem setRefresh_pack (k : Fin 4) (t : Option Nat) : (setRefresh k t s).pack = { refresh := s.pack.refresh.set k.val t k.isLt } := rfl
@[simp] theorem setRefresh_pinch (k : Fin 4) (t : Option Nat) : (setRefresh k t s).pinch = s.pinch := rfl
@[simp] theorem setRefresh_touch (k : Fin 4) (t : Option Nat) : (setRefresh k t s).touch = s.touch := rfl
@[simp] theorem setRefresh_search (k : Fin 4) (t : Option Nat) : (setRefresh k t s).search = s.search := rfl
@[simp] theorem setRefresh_fobs (k : Fin 4) (t : Option Nat) : (setRefresh k t s).fobs = s.fobs := rfl
@[simp] theorem setRefresh_rf (k : Fin 4) (t : Option Nat) : (setRefresh k t s).rf = s.rf := rfl
@[simp] theorem setRefresh_supply (k : Fin 4) (t : Option Nat) : (setRefresh k t s).supply = s.supply := rfl
@[simp] theorem setRefresh_power (k : Fin 4) (t : Option Nat) : (setRefresh k t s).power = s.power := rfl
@[simp] theorem setRefresh_faults (k : Fin 4) (t : Option Nat) : (setRefresh k t s).faults = s.faults := rfl
@[simp] theorem setRefresh_settings (k : Fin 4) (t : Option Nat) : (setRefresh k t s).settings = s.settings := rfl

@[simp] theorem stepSequence_pending : (stepSequence s).pending = s.pending := rfl
@[simp] theorem stepSequence_now : (stepSequence s).now = s.now := rfl
@[simp] theorem stepSequence_straps : (stepSequence s).straps = s.straps := rfl
@[simp] theorem stepSequence_pins : (stepSequence s).pins = s.pins := rfl
@[simp] theorem stepSequence_link : (stepSequence s).link = s.link := rfl
@[simp] theorem stepSequence_roster : (stepSequence s).roster = s.roster := rfl
@[simp] theorem stepSequence_vehicle : (stepSequence s).vehicle = s.vehicle := rfl
@[simp] theorem stepSequence_latch : (stepSequence s).latch = s.latch := rfl
@[simp] theorem stepSequence_lock : (stepSequence s).lock = { s.lock with sequence := s.lock.sequence + 1 } := rfl
@[simp] theorem stepSequence_release : (stepSequence s).release = s.release := rfl
@[simp] theorem stepSequence_child : (stepSequence s).child = s.child := rfl
@[simp] theorem stepSequence_crash : (stepSequence s).crash = s.crash := rfl
@[simp] theorem stepSequence_window : (stepSequence s).window = s.window := rfl
@[simp] theorem stepSequence_pack : (stepSequence s).pack = s.pack := rfl
@[simp] theorem stepSequence_pinch : (stepSequence s).pinch = s.pinch := rfl
@[simp] theorem stepSequence_touch : (stepSequence s).touch = s.touch := rfl
@[simp] theorem stepSequence_search : (stepSequence s).search = s.search := rfl
@[simp] theorem stepSequence_fobs : (stepSequence s).fobs = s.fobs := rfl
@[simp] theorem stepSequence_rf : (stepSequence s).rf = s.rf := rfl
@[simp] theorem stepSequence_supply : (stepSequence s).supply = s.supply := rfl
@[simp] theorem stepSequence_power : (stepSequence s).power = s.power := rfl
@[simp] theorem stepSequence_faults : (stepSequence s).faults = s.faults := rfl
@[simp] theorem stepSequence_settings : (stepSequence s).settings = s.settings := rfl

@[simp] theorem refuse_pending (c : RefusalCode) : (refuse c s).pending = s.pending := rfl
@[simp] theorem refuse_now (c : RefusalCode) : (refuse c s).now = s.now := rfl
@[simp] theorem refuse_straps (c : RefusalCode) : (refuse c s).straps = s.straps := rfl
@[simp] theorem refuse_pins (c : RefusalCode) : (refuse c s).pins = s.pins := rfl
@[simp] theorem refuse_link (c : RefusalCode) : (refuse c s).link = s.link := rfl
@[simp] theorem refuse_roster (c : RefusalCode) : (refuse c s).roster = s.roster := rfl
@[simp] theorem refuse_vehicle (c : RefusalCode) : (refuse c s).vehicle = s.vehicle := rfl
@[simp] theorem refuse_latch (c : RefusalCode) : (refuse c s).latch = s.latch := rfl
@[simp] theorem refuse_lock (c : RefusalCode) : (refuse c s).lock = { s.lock with refusal := c } := rfl
@[simp] theorem refuse_release (c : RefusalCode) : (refuse c s).release = s.release := rfl
@[simp] theorem refuse_child (c : RefusalCode) : (refuse c s).child = s.child := rfl
@[simp] theorem refuse_crash (c : RefusalCode) : (refuse c s).crash = s.crash := rfl
@[simp] theorem refuse_window (c : RefusalCode) : (refuse c s).window = s.window := rfl
@[simp] theorem refuse_pack (c : RefusalCode) : (refuse c s).pack = s.pack := rfl
@[simp] theorem refuse_pinch (c : RefusalCode) : (refuse c s).pinch = s.pinch := rfl
@[simp] theorem refuse_touch (c : RefusalCode) : (refuse c s).touch = s.touch := rfl
@[simp] theorem refuse_search (c : RefusalCode) : (refuse c s).search = s.search := rfl
@[simp] theorem refuse_fobs (c : RefusalCode) : (refuse c s).fobs = s.fobs := rfl
@[simp] theorem refuse_rf (c : RefusalCode) : (refuse c s).rf = s.rf := rfl
@[simp] theorem refuse_supply (c : RefusalCode) : (refuse c s).supply = s.supply := rfl
@[simp] theorem refuse_power (c : RefusalCode) : (refuse c s).power = s.power := rfl
@[simp] theorem refuse_faults (c : RefusalCode) : (refuse c s).faults = s.faults := rfl
@[simp] theorem refuse_settings (c : RefusalCode) : (refuse c s).settings = s.settings := rfl

@[simp] theorem stopRelock_pending : (stopRelock s).pending = s.pending := rfl
@[simp] theorem stopRelock_now : (stopRelock s).now = s.now := rfl
@[simp] theorem stopRelock_straps : (stopRelock s).straps = s.straps := rfl
@[simp] theorem stopRelock_pins : (stopRelock s).pins = s.pins := rfl
@[simp] theorem stopRelock_link : (stopRelock s).link = s.link := rfl
@[simp] theorem stopRelock_roster : (stopRelock s).roster = s.roster := rfl
@[simp] theorem stopRelock_vehicle : (stopRelock s).vehicle = s.vehicle := rfl
@[simp] theorem stopRelock_latch : (stopRelock s).latch = s.latch := rfl
@[simp] theorem stopRelock_lock : (stopRelock s).lock = { s.lock with relock := none } := rfl
@[simp] theorem stopRelock_release : (stopRelock s).release = s.release := rfl
@[simp] theorem stopRelock_child : (stopRelock s).child = s.child := rfl
@[simp] theorem stopRelock_crash : (stopRelock s).crash = s.crash := rfl
@[simp] theorem stopRelock_window : (stopRelock s).window = s.window := rfl
@[simp] theorem stopRelock_pack : (stopRelock s).pack = s.pack := rfl
@[simp] theorem stopRelock_pinch : (stopRelock s).pinch = s.pinch := rfl
@[simp] theorem stopRelock_touch : (stopRelock s).touch = s.touch := rfl
@[simp] theorem stopRelock_search : (stopRelock s).search = s.search := rfl
@[simp] theorem stopRelock_fobs : (stopRelock s).fobs = s.fobs := rfl
@[simp] theorem stopRelock_rf : (stopRelock s).rf = s.rf := rfl
@[simp] theorem stopRelock_supply : (stopRelock s).supply = s.supply := rfl
@[simp] theorem stopRelock_power : (stopRelock s).power = s.power := rfl
@[simp] theorem stopRelock_faults : (stopRelock s).faults = s.faults := rfl
@[simp] theorem stopRelock_settings : (stopRelock s).settings = s.settings := rfl

@[simp] theorem endAfterRun_pending : (endAfterRun s).pending = s.pending := rfl
@[simp] theorem endAfterRun_now : (endAfterRun s).now = s.now := rfl
@[simp] theorem endAfterRun_straps : (endAfterRun s).straps = s.straps := rfl
@[simp] theorem endAfterRun_pins : (endAfterRun s).pins = s.pins := rfl
@[simp] theorem endAfterRun_link : (endAfterRun s).link = s.link := rfl
@[simp] theorem endAfterRun_roster : (endAfterRun s).roster = s.roster := rfl
@[simp] theorem endAfterRun_vehicle : (endAfterRun s).vehicle = { s.vehicle with afterRun := none } := rfl
@[simp] theorem endAfterRun_latch : (endAfterRun s).latch = s.latch := rfl
@[simp] theorem endAfterRun_lock : (endAfterRun s).lock = s.lock := rfl
@[simp] theorem endAfterRun_release : (endAfterRun s).release = s.release := rfl
@[simp] theorem endAfterRun_child : (endAfterRun s).child = s.child := rfl
@[simp] theorem endAfterRun_crash : (endAfterRun s).crash = s.crash := rfl
@[simp] theorem endAfterRun_window : (endAfterRun s).window = s.window := rfl
@[simp] theorem endAfterRun_pack : (endAfterRun s).pack = s.pack := rfl
@[simp] theorem endAfterRun_pinch : (endAfterRun s).pinch = s.pinch := rfl
@[simp] theorem endAfterRun_touch : (endAfterRun s).touch = s.touch := rfl
@[simp] theorem endAfterRun_search : (endAfterRun s).search = s.search := rfl
@[simp] theorem endAfterRun_fobs : (endAfterRun s).fobs = s.fobs := rfl
@[simp] theorem endAfterRun_rf : (endAfterRun s).rf = s.rf := rfl
@[simp] theorem endAfterRun_supply : (endAfterRun s).supply = s.supply := rfl
@[simp] theorem endAfterRun_power : (endAfterRun s).power = s.power := rfl
@[simp] theorem endAfterRun_faults : (endAfterRun s).faults = s.faults := rfl
@[simp] theorem endAfterRun_settings : (endAfterRun s).settings = s.settings := rfl

@[simp] theorem endCrashHold_pending : (endCrashHold s).pending = s.pending := rfl
@[simp] theorem endCrashHold_now : (endCrashHold s).now = s.now := rfl
@[simp] theorem endCrashHold_straps : (endCrashHold s).straps = s.straps := rfl
@[simp] theorem endCrashHold_pins : (endCrashHold s).pins = s.pins := rfl
@[simp] theorem endCrashHold_link : (endCrashHold s).link = s.link := rfl
@[simp] theorem endCrashHold_roster : (endCrashHold s).roster = s.roster := rfl
@[simp] theorem endCrashHold_vehicle : (endCrashHold s).vehicle = s.vehicle := rfl
@[simp] theorem endCrashHold_latch : (endCrashHold s).latch = s.latch := rfl
@[simp] theorem endCrashHold_lock : (endCrashHold s).lock = s.lock := rfl
@[simp] theorem endCrashHold_release : (endCrashHold s).release = s.release := rfl
@[simp] theorem endCrashHold_child : (endCrashHold s).child = s.child := rfl
@[simp] theorem endCrashHold_crash : (endCrashHold s).crash = { s.crash with hold := false } := rfl
@[simp] theorem endCrashHold_window : (endCrashHold s).window = s.window := rfl
@[simp] theorem endCrashHold_pack : (endCrashHold s).pack = s.pack := rfl
@[simp] theorem endCrashHold_pinch : (endCrashHold s).pinch = s.pinch := rfl
@[simp] theorem endCrashHold_touch : (endCrashHold s).touch = s.touch := rfl
@[simp] theorem endCrashHold_search : (endCrashHold s).search = s.search := rfl
@[simp] theorem endCrashHold_fobs : (endCrashHold s).fobs = s.fobs := rfl
@[simp] theorem endCrashHold_rf : (endCrashHold s).rf = s.rf := rfl
@[simp] theorem endCrashHold_supply : (endCrashHold s).supply = s.supply := rfl
@[simp] theorem endCrashHold_power : (endCrashHold s).power = s.power := rfl
@[simp] theorem endCrashHold_faults : (endCrashHold s).faults = s.faults := rfl
@[simp] theorem endCrashHold_settings : (endCrashHold s).settings = s.settings := rfl

@[simp] theorem armDriveAway_pending : (armDriveAway s).pending = s.pending := rfl
@[simp] theorem armDriveAway_now : (armDriveAway s).now = s.now := rfl
@[simp] theorem armDriveAway_straps : (armDriveAway s).straps = s.straps := rfl
@[simp] theorem armDriveAway_pins : (armDriveAway s).pins = s.pins := rfl
@[simp] theorem armDriveAway_link : (armDriveAway s).link = s.link := rfl
@[simp] theorem armDriveAway_roster : (armDriveAway s).roster = s.roster := rfl
@[simp] theorem armDriveAway_vehicle : (armDriveAway s).vehicle = s.vehicle := rfl
@[simp] theorem armDriveAway_latch : (armDriveAway s).latch = s.latch := rfl
@[simp] theorem armDriveAway_lock : (armDriveAway s).lock = { s.lock with driveAwayArmed := s.settings.options.driveAway } := rfl
@[simp] theorem armDriveAway_release : (armDriveAway s).release = s.release := rfl
@[simp] theorem armDriveAway_child : (armDriveAway s).child = s.child := rfl
@[simp] theorem armDriveAway_crash : (armDriveAway s).crash = s.crash := rfl
@[simp] theorem armDriveAway_window : (armDriveAway s).window = s.window := rfl
@[simp] theorem armDriveAway_pack : (armDriveAway s).pack = s.pack := rfl
@[simp] theorem armDriveAway_pinch : (armDriveAway s).pinch = s.pinch := rfl
@[simp] theorem armDriveAway_touch : (armDriveAway s).touch = s.touch := rfl
@[simp] theorem armDriveAway_search : (armDriveAway s).search = s.search := rfl
@[simp] theorem armDriveAway_fobs : (armDriveAway s).fobs = s.fobs := rfl
@[simp] theorem armDriveAway_rf : (armDriveAway s).rf = s.rf := rfl
@[simp] theorem armDriveAway_supply : (armDriveAway s).supply = s.supply := rfl
@[simp] theorem armDriveAway_power : (armDriveAway s).power = s.power := rfl
@[simp] theorem armDriveAway_faults : (armDriveAway s).faults = s.faults := rfl
@[simp] theorem armDriveAway_settings : (armDriveAway s).settings = s.settings := rfl

@[simp] theorem crashLatch_pending : (crashLatch s).pending = s.pending := rfl
@[simp] theorem crashLatch_now : (crashLatch s).now = s.now := rfl
@[simp] theorem crashLatch_straps : (crashLatch s).straps = s.straps := rfl
@[simp] theorem crashLatch_pins : (crashLatch s).pins = s.pins := rfl
@[simp] theorem crashLatch_link : (crashLatch s).link = s.link := rfl
@[simp] theorem crashLatch_roster : (crashLatch s).roster = s.roster := rfl
@[simp] theorem crashLatch_vehicle : (crashLatch s).vehicle = s.vehicle := rfl
@[simp] theorem crashLatch_latch : (crashLatch s).latch = crashUnlock (latchSupplyOk s) s.latch := rfl
@[simp] theorem crashLatch_lock : (crashLatch s).lock = s.lock := rfl
@[simp] theorem crashLatch_release : (crashLatch s).release = s.release := rfl
@[simp] theorem crashLatch_child : (crashLatch s).child = s.child := rfl
@[simp] theorem crashLatch_crash : (crashLatch s).crash = s.crash := rfl
@[simp] theorem crashLatch_window : (crashLatch s).window = s.window := rfl
@[simp] theorem crashLatch_pack : (crashLatch s).pack = s.pack := rfl
@[simp] theorem crashLatch_pinch : (crashLatch s).pinch = s.pinch := rfl
@[simp] theorem crashLatch_touch : (crashLatch s).touch = s.touch := rfl
@[simp] theorem crashLatch_search : (crashLatch s).search = s.search := rfl
@[simp] theorem crashLatch_fobs : (crashLatch s).fobs = s.fobs := rfl
@[simp] theorem crashLatch_rf : (crashLatch s).rf = s.rf := rfl
@[simp] theorem crashLatch_supply : (crashLatch s).supply = s.supply := rfl
@[simp] theorem crashLatch_power : (crashLatch s).power = s.power := rfl
@[simp] theorem crashLatch_faults : (crashLatch s).faults = s.faults := rfl
@[simp] theorem crashLatch_settings : (crashLatch s).settings = s.settings := rfl

@[simp] theorem writeTarget_pending (t : LatchTarget) : (writeTarget t s).pending = s.pending := rfl
@[simp] theorem writeTarget_now (t : LatchTarget) : (writeTarget t s).now = s.now := rfl
@[simp] theorem writeTarget_straps (t : LatchTarget) : (writeTarget t s).straps = s.straps := rfl
@[simp] theorem writeTarget_pins (t : LatchTarget) : (writeTarget t s).pins = s.pins := rfl
@[simp] theorem writeTarget_link (t : LatchTarget) : (writeTarget t s).link = s.link := rfl
@[simp] theorem writeTarget_roster (t : LatchTarget) : (writeTarget t s).roster = s.roster := rfl
@[simp] theorem writeTarget_vehicle (t : LatchTarget) : (writeTarget t s).vehicle = s.vehicle := rfl
@[simp] theorem writeTarget_latch (t : LatchTarget) : (writeTarget t s).latch = latchWriteGated s.crash.hold s.pins.doorOpen (latchSupplyOk s) t s.latch := rfl
@[simp] theorem writeTarget_lock (t : LatchTarget) : (writeTarget t s).lock = s.lock := rfl
@[simp] theorem writeTarget_release (t : LatchTarget) : (writeTarget t s).release = s.release := rfl
@[simp] theorem writeTarget_child (t : LatchTarget) : (writeTarget t s).child = s.child := rfl
@[simp] theorem writeTarget_crash (t : LatchTarget) : (writeTarget t s).crash = s.crash := rfl
@[simp] theorem writeTarget_window (t : LatchTarget) : (writeTarget t s).window = s.window := rfl
@[simp] theorem writeTarget_pack (t : LatchTarget) : (writeTarget t s).pack = s.pack := rfl
@[simp] theorem writeTarget_pinch (t : LatchTarget) : (writeTarget t s).pinch = s.pinch := rfl
@[simp] theorem writeTarget_touch (t : LatchTarget) : (writeTarget t s).touch = s.touch := rfl
@[simp] theorem writeTarget_search (t : LatchTarget) : (writeTarget t s).search = s.search := rfl
@[simp] theorem writeTarget_fobs (t : LatchTarget) : (writeTarget t s).fobs = s.fobs := rfl
@[simp] theorem writeTarget_rf (t : LatchTarget) : (writeTarget t s).rf = s.rf := rfl
@[simp] theorem writeTarget_supply (t : LatchTarget) : (writeTarget t s).supply = s.supply := rfl
@[simp] theorem writeTarget_power (t : LatchTarget) : (writeTarget t s).power = s.power := rfl
@[simp] theorem writeTarget_faults (t : LatchTarget) : (writeTarget t s).faults = s.faults := rfl
@[simp] theorem writeTarget_settings (t : LatchTarget) : (writeTarget t s).settings = s.settings := rfl

@[simp] theorem pauseTouch_pending : (pauseTouch s).pending = s.pending := rfl
@[simp] theorem pauseTouch_now : (pauseTouch s).now = s.now := rfl
@[simp] theorem pauseTouch_straps : (pauseTouch s).straps = s.straps := rfl
@[simp] theorem pauseTouch_pins : (pauseTouch s).pins = s.pins := rfl
@[simp] theorem pauseTouch_link : (pauseTouch s).link = s.link := rfl
@[simp] theorem pauseTouch_roster : (pauseTouch s).roster = s.roster := rfl
@[simp] theorem pauseTouch_vehicle : (pauseTouch s).vehicle = s.vehicle := rfl
@[simp] theorem pauseTouch_latch : (pauseTouch s).latch = s.latch := rfl
@[simp] theorem pauseTouch_lock : (pauseTouch s).lock = s.lock := rfl
@[simp] theorem pauseTouch_release : (pauseTouch s).release = s.release := rfl
@[simp] theorem pauseTouch_child : (pauseTouch s).child = s.child := rfl
@[simp] theorem pauseTouch_crash : (pauseTouch s).crash = s.crash := rfl
@[simp] theorem pauseTouch_window : (pauseTouch s).window = s.window := rfl
@[simp] theorem pauseTouch_pack : (pauseTouch s).pack = s.pack := rfl
@[simp] theorem pauseTouch_pinch : (pauseTouch s).pinch = s.pinch := rfl
@[simp] theorem pauseTouch_touch : (pauseTouch s).touch = { s.touch with measuring := none, paused := true } := rfl
@[simp] theorem pauseTouch_search : (pauseTouch s).search = s.search := rfl
@[simp] theorem pauseTouch_fobs : (pauseTouch s).fobs = s.fobs := rfl
@[simp] theorem pauseTouch_rf : (pauseTouch s).rf = s.rf := rfl
@[simp] theorem pauseTouch_supply : (pauseTouch s).supply = s.supply := rfl
@[simp] theorem pauseTouch_power : (pauseTouch s).power = s.power := rfl
@[simp] theorem pauseTouch_faults : (pauseTouch s).faults = s.faults := rfl
@[simp] theorem pauseTouch_settings : (pauseTouch s).settings = s.settings := rfl

@[simp] theorem onElectrode_pending (e : Fin 3) (f : Electrode → Electrode) : (onElectrode e f s).pending = s.pending := rfl
@[simp] theorem onElectrode_now (e : Fin 3) (f : Electrode → Electrode) : (onElectrode e f s).now = s.now := rfl
@[simp] theorem onElectrode_straps (e : Fin 3) (f : Electrode → Electrode) : (onElectrode e f s).straps = s.straps := rfl
@[simp] theorem onElectrode_pins (e : Fin 3) (f : Electrode → Electrode) : (onElectrode e f s).pins = s.pins := rfl
@[simp] theorem onElectrode_link (e : Fin 3) (f : Electrode → Electrode) : (onElectrode e f s).link = s.link := rfl
@[simp] theorem onElectrode_roster (e : Fin 3) (f : Electrode → Electrode) : (onElectrode e f s).roster = s.roster := rfl
@[simp] theorem onElectrode_vehicle (e : Fin 3) (f : Electrode → Electrode) : (onElectrode e f s).vehicle = s.vehicle := rfl
@[simp] theorem onElectrode_latch (e : Fin 3) (f : Electrode → Electrode) : (onElectrode e f s).latch = s.latch := rfl
@[simp] theorem onElectrode_lock (e : Fin 3) (f : Electrode → Electrode) : (onElectrode e f s).lock = s.lock := rfl
@[simp] theorem onElectrode_release (e : Fin 3) (f : Electrode → Electrode) : (onElectrode e f s).release = s.release := rfl
@[simp] theorem onElectrode_child (e : Fin 3) (f : Electrode → Electrode) : (onElectrode e f s).child = s.child := rfl
@[simp] theorem onElectrode_crash (e : Fin 3) (f : Electrode → Electrode) : (onElectrode e f s).crash = s.crash := rfl
@[simp] theorem onElectrode_window (e : Fin 3) (f : Electrode → Electrode) : (onElectrode e f s).window = s.window := rfl
@[simp] theorem onElectrode_pack (e : Fin 3) (f : Electrode → Electrode) : (onElectrode e f s).pack = s.pack := rfl
@[simp] theorem onElectrode_pinch (e : Fin 3) (f : Electrode → Electrode) : (onElectrode e f s).pinch = s.pinch := rfl
@[simp] theorem onElectrode_touch (e : Fin 3) (f : Electrode → Electrode) : (onElectrode e f s).touch = { s.touch with electrodes := s.touch.electrodes.set e.val (f (s.touch.electrodes[e])) e.isLt } := rfl
@[simp] theorem onElectrode_search (e : Fin 3) (f : Electrode → Electrode) : (onElectrode e f s).search = s.search := rfl
@[simp] theorem onElectrode_fobs (e : Fin 3) (f : Electrode → Electrode) : (onElectrode e f s).fobs = s.fobs := rfl
@[simp] theorem onElectrode_rf (e : Fin 3) (f : Electrode → Electrode) : (onElectrode e f s).rf = s.rf := rfl
@[simp] theorem onElectrode_supply (e : Fin 3) (f : Electrode → Electrode) : (onElectrode e f s).supply = s.supply := rfl
@[simp] theorem onElectrode_power (e : Fin 3) (f : Electrode → Electrode) : (onElectrode e f s).power = s.power := rfl
@[simp] theorem onElectrode_faults (e : Fin 3) (f : Electrode → Electrode) : (onElectrode e f s).faults = s.faults := rfl
@[simp] theorem onElectrode_settings (e : Fin 3) (f : Electrode → Electrode) : (onElectrode e f s).settings = s.settings := rfl

@[simp] theorem onPeer_pending (n : Fin 8) (f : Peer → Peer) : (onPeer n f s).pending = s.pending := rfl
@[simp] theorem onPeer_now (n : Fin 8) (f : Peer → Peer) : (onPeer n f s).now = s.now := rfl
@[simp] theorem onPeer_straps (n : Fin 8) (f : Peer → Peer) : (onPeer n f s).straps = s.straps := rfl
@[simp] theorem onPeer_pins (n : Fin 8) (f : Peer → Peer) : (onPeer n f s).pins = s.pins := rfl
@[simp] theorem onPeer_link (n : Fin 8) (f : Peer → Peer) : (onPeer n f s).link = s.link := rfl
@[simp] theorem onPeer_roster (n : Fin 8) (f : Peer → Peer) : (onPeer n f s).roster = { s.roster with peers := s.roster.peers.set n.val (f (peer s n)) n.isLt } := rfl
@[simp] theorem onPeer_vehicle (n : Fin 8) (f : Peer → Peer) : (onPeer n f s).vehicle = s.vehicle := rfl
@[simp] theorem onPeer_latch (n : Fin 8) (f : Peer → Peer) : (onPeer n f s).latch = s.latch := rfl
@[simp] theorem onPeer_lock (n : Fin 8) (f : Peer → Peer) : (onPeer n f s).lock = s.lock := rfl
@[simp] theorem onPeer_release (n : Fin 8) (f : Peer → Peer) : (onPeer n f s).release = s.release := rfl
@[simp] theorem onPeer_child (n : Fin 8) (f : Peer → Peer) : (onPeer n f s).child = s.child := rfl
@[simp] theorem onPeer_crash (n : Fin 8) (f : Peer → Peer) : (onPeer n f s).crash = s.crash := rfl
@[simp] theorem onPeer_window (n : Fin 8) (f : Peer → Peer) : (onPeer n f s).window = s.window := rfl
@[simp] theorem onPeer_pack (n : Fin 8) (f : Peer → Peer) : (onPeer n f s).pack = s.pack := rfl
@[simp] theorem onPeer_pinch (n : Fin 8) (f : Peer → Peer) : (onPeer n f s).pinch = s.pinch := rfl
@[simp] theorem onPeer_touch (n : Fin 8) (f : Peer → Peer) : (onPeer n f s).touch = s.touch := rfl
@[simp] theorem onPeer_search (n : Fin 8) (f : Peer → Peer) : (onPeer n f s).search = s.search := rfl
@[simp] theorem onPeer_fobs (n : Fin 8) (f : Peer → Peer) : (onPeer n f s).fobs = s.fobs := rfl
@[simp] theorem onPeer_rf (n : Fin 8) (f : Peer → Peer) : (onPeer n f s).rf = s.rf := rfl
@[simp] theorem onPeer_supply (n : Fin 8) (f : Peer → Peer) : (onPeer n f s).supply = s.supply := rfl
@[simp] theorem onPeer_power (n : Fin 8) (f : Peer → Peer) : (onPeer n f s).power = s.power := rfl
@[simp] theorem onPeer_faults (n : Fin 8) (f : Peer → Peer) : (onPeer n f s).faults = s.faults := rfl
@[simp] theorem onPeer_settings (n : Fin 8) (f : Peer → Peer) : (onPeer n f s).settings = s.settings := rfl

@[simp] theorem onPresence_pending (n : Fin 8) (f : Peer → Peer) : (onPresence n f s).pending = s.pending := by
  unfold onPresence; dsimp only; split <;> rfl
@[simp] theorem onPresence_now (n : Fin 8) (f : Peer → Peer) : (onPresence n f s).now = s.now := by
  unfold onPresence; dsimp only; split <;> rfl
@[simp] theorem onPresence_straps (n : Fin 8) (f : Peer → Peer) : (onPresence n f s).straps = s.straps := by
  unfold onPresence; dsimp only; split <;> rfl
@[simp] theorem onPresence_pins (n : Fin 8) (f : Peer → Peer) : (onPresence n f s).pins = s.pins := by
  unfold onPresence; dsimp only; split <;> rfl
@[simp] theorem onPresence_link (n : Fin 8) (f : Peer → Peer) : (onPresence n f s).link = s.link := by
  unfold onPresence; dsimp only; split <;> rfl
@[simp] theorem onPresence_vehicle (n : Fin 8) (f : Peer → Peer) : (onPresence n f s).vehicle = s.vehicle := by
  unfold onPresence; dsimp only; split <;> rfl
@[simp] theorem onPresence_latch (n : Fin 8) (f : Peer → Peer) : (onPresence n f s).latch = s.latch := by
  unfold onPresence; dsimp only; split <;> rfl
@[simp] theorem onPresence_lock (n : Fin 8) (f : Peer → Peer) : (onPresence n f s).lock = s.lock := by
  unfold onPresence; dsimp only; split <;> rfl
@[simp] theorem onPresence_release (n : Fin 8) (f : Peer → Peer) : (onPresence n f s).release = s.release := by
  unfold onPresence; dsimp only; split <;> rfl
@[simp] theorem onPresence_child (n : Fin 8) (f : Peer → Peer) : (onPresence n f s).child = s.child := by
  unfold onPresence; dsimp only; split <;> rfl
@[simp] theorem onPresence_crash (n : Fin 8) (f : Peer → Peer) : (onPresence n f s).crash = s.crash := by
  unfold onPresence; dsimp only; split <;> rfl
@[simp] theorem onPresence_window (n : Fin 8) (f : Peer → Peer) : (onPresence n f s).window = s.window := by
  unfold onPresence; dsimp only; split <;> rfl
@[simp] theorem onPresence_pack (n : Fin 8) (f : Peer → Peer) : (onPresence n f s).pack = s.pack := by
  unfold onPresence; dsimp only; split <;> rfl
@[simp] theorem onPresence_pinch (n : Fin 8) (f : Peer → Peer) : (onPresence n f s).pinch = s.pinch := by
  unfold onPresence; dsimp only; split <;> rfl
@[simp] theorem onPresence_touch (n : Fin 8) (f : Peer → Peer) : (onPresence n f s).touch = s.touch := by
  unfold onPresence; dsimp only; split <;> rfl
@[simp] theorem onPresence_search (n : Fin 8) (f : Peer → Peer) : (onPresence n f s).search = s.search := by
  unfold onPresence; dsimp only; split <;> rfl
@[simp] theorem onPresence_fobs (n : Fin 8) (f : Peer → Peer) : (onPresence n f s).fobs = s.fobs := by
  unfold onPresence; dsimp only; split <;> rfl
@[simp] theorem onPresence_rf (n : Fin 8) (f : Peer → Peer) : (onPresence n f s).rf = s.rf := by
  unfold onPresence; dsimp only; split <;> rfl
@[simp] theorem onPresence_supply (n : Fin 8) (f : Peer → Peer) : (onPresence n f s).supply = s.supply := by
  unfold onPresence; dsimp only; split <;> rfl
@[simp] theorem onPresence_power (n : Fin 8) (f : Peer → Peer) : (onPresence n f s).power = s.power := by
  unfold onPresence; dsimp only; split <;> rfl
@[simp] theorem onPresence_faults (n : Fin 8) (f : Peer → Peer) : (onPresence n f s).faults = s.faults := by
  unfold onPresence; dsimp only; split <;> rfl
@[simp] theorem onPresence_settings (n : Fin 8) (f : Peer → Peer) : (onPresence n f s).settings = s.settings := by
  unfold onPresence; dsimp only; split <;> rfl
@[simp] theorem onPresence_peers (n : Fin 8) (f : Peer → Peer) :
    (onPresence n f s).roster.peers = s.roster.peers.set n.val (f (peer s n)) n.isLt := by
  unfold onPresence; dsimp only; split <;> rfl
@[simp] theorem onPresence_lastPlaced (n : Fin 8) (f : Peer → Peer) :
    (onPresence n f s).roster.lastPlaced = s.roster.lastPlaced := by
  unfold onPresence; dsimp only; split <;> rfl
@[simp] theorem onPresence_period (n : Fin 8) (f : Peer → Peer) :
    (onPresence n f s).roster.period = s.roster.period := by
  unfold onPresence; dsimp only; split <;> rfl

@[simp] theorem setVerdict_pending (v : Verdict) : (setVerdict v s).pending = s.pending := rfl
@[simp] theorem setVerdict_now (v : Verdict) : (setVerdict v s).now = s.now := rfl
@[simp] theorem setVerdict_straps (v : Verdict) : (setVerdict v s).straps = s.straps := rfl
@[simp] theorem setVerdict_pins (v : Verdict) : (setVerdict v s).pins = s.pins := rfl
@[simp] theorem setVerdict_link (v : Verdict) : (setVerdict v s).link = s.link := rfl
@[simp] theorem setVerdict_roster (v : Verdict) : (setVerdict v s).roster = s.roster := rfl
@[simp] theorem setVerdict_vehicle (v : Verdict) : (setVerdict v s).vehicle = s.vehicle := rfl
@[simp] theorem setVerdict_latch (v : Verdict) : (setVerdict v s).latch = s.latch := rfl
@[simp] theorem setVerdict_lock (v : Verdict) : (setVerdict v s).lock = s.lock := rfl
@[simp] theorem setVerdict_release (v : Verdict) : (setVerdict v s).release = s.release := rfl
@[simp] theorem setVerdict_child (v : Verdict) : (setVerdict v s).child = s.child := rfl
@[simp] theorem setVerdict_crash (v : Verdict) : (setVerdict v s).crash = s.crash := rfl
@[simp] theorem setVerdict_window (v : Verdict) : (setVerdict v s).window = s.window := rfl
@[simp] theorem setVerdict_pack (v : Verdict) : (setVerdict v s).pack = s.pack := rfl
@[simp] theorem setVerdict_pinch (v : Verdict) : (setVerdict v s).pinch = s.pinch := rfl
@[simp] theorem setVerdict_touch (v : Verdict) : (setVerdict v s).touch = s.touch := rfl
@[simp] theorem setVerdict_search (v : Verdict) : (setVerdict v s).search = { s.search with lastVerdict := v } := rfl
@[simp] theorem setVerdict_fobs (v : Verdict) : (setVerdict v s).fobs = s.fobs := rfl
@[simp] theorem setVerdict_rf (v : Verdict) : (setVerdict v s).rf = s.rf := rfl
@[simp] theorem setVerdict_supply (v : Verdict) : (setVerdict v s).supply = s.supply := rfl
@[simp] theorem setVerdict_power (v : Verdict) : (setVerdict v s).power = s.power := rfl
@[simp] theorem setVerdict_faults (v : Verdict) : (setVerdict v s).faults = s.faults := rfl
@[simp] theorem setVerdict_settings (v : Verdict) : (setVerdict v s).settings = s.settings := rfl

@[simp] theorem withdrawSearch_pending : (withdrawSearch s).pending = s.pending := rfl
@[simp] theorem withdrawSearch_now : (withdrawSearch s).now = s.now := rfl
@[simp] theorem withdrawSearch_straps : (withdrawSearch s).straps = s.straps := rfl
@[simp] theorem withdrawSearch_pins : (withdrawSearch s).pins = s.pins := rfl
@[simp] theorem withdrawSearch_link : (withdrawSearch s).link = { s.link with tx := s.link.tx.filter fun e => e.telegram.kind != kSearch || e.inAttempt } := rfl
@[simp] theorem withdrawSearch_roster : (withdrawSearch s).roster = s.roster := rfl
@[simp] theorem withdrawSearch_vehicle : (withdrawSearch s).vehicle = s.vehicle := rfl
@[simp] theorem withdrawSearch_latch : (withdrawSearch s).latch = s.latch := rfl
@[simp] theorem withdrawSearch_lock : (withdrawSearch s).lock = s.lock := rfl
@[simp] theorem withdrawSearch_release : (withdrawSearch s).release = s.release := rfl
@[simp] theorem withdrawSearch_child : (withdrawSearch s).child = s.child := rfl
@[simp] theorem withdrawSearch_crash : (withdrawSearch s).crash = s.crash := rfl
@[simp] theorem withdrawSearch_window : (withdrawSearch s).window = s.window := rfl
@[simp] theorem withdrawSearch_pack : (withdrawSearch s).pack = s.pack := rfl
@[simp] theorem withdrawSearch_pinch : (withdrawSearch s).pinch = s.pinch := rfl
@[simp] theorem withdrawSearch_touch : (withdrawSearch s).touch = s.touch := rfl
@[simp] theorem withdrawSearch_search : (withdrawSearch s).search = s.search := rfl
@[simp] theorem withdrawSearch_fobs : (withdrawSearch s).fobs = s.fobs := rfl
@[simp] theorem withdrawSearch_rf : (withdrawSearch s).rf = s.rf := rfl
@[simp] theorem withdrawSearch_supply : (withdrawSearch s).supply = s.supply := rfl
@[simp] theorem withdrawSearch_power : (withdrawSearch s).power = s.power := rfl
@[simp] theorem withdrawSearch_faults : (withdrawSearch s).faults = s.faults := rfl
@[simp] theorem withdrawSearch_settings : (withdrawSearch s).settings = s.settings := rfl

end Sys2Proof.Machine
end

