-- ==== Sys2Proof/Laws/Ops.lean ====
section
/-! SUPPORT. What the shared operations can do, said once: placing a telegram, capturing a fault, placing the
own STATE, the two tests that end an event, and the idle step's tick. Each lemma names what an operation
leaves as it is; the values it writes are in the lemmas without a field in their name. -/

namespace Sys2Proof.Machine

variable (s : State)

/-! ## The transmit queue -/

/-- A placement changes the transmit queue only (R12 to R15, R22). -/
theorem enqueue_frame (t : Telegram) (l : Link) :
    (enqueue t l).1.state = l.state ∧ (enqueue t l).1.synchronised = l.synchronised ∧
    (enqueue t l).1.insideTelegram = l.insideTelegram ∧ (enqueue t l).1.isolation = l.isolation ∧
    (enqueue t l).1.rx = l.rx ∧ (enqueue t l).1.ackDriven = l.ackDriven ∧
    (enqueue t l).1.taken = l.taken ∧ (enqueue t l).1.dominantFor = l.dominantFor ∧
    (enqueue t l).1.recessiveFor = l.recessiveFor ∧ (enqueue t l).1.level = l.level ∧
    (enqueue t l).1.own = l.own := by
  unfold enqueue
  split
  · simp
  · split
    · simp
    · split <;> simp

/-- Insertion adds one entry. -/
theorem insertEntry_length (e : TxEntry) (l : List TxEntry) :
    (insertEntry e l).length = l.length + 1 := by
  induction l with
  | nil => rfl
  | cons x xs ih =>
    simp only [insertEntry]
    split <;> simp_all

/-- Insertion adds the entry and no other. -/
theorem mem_insertEntry (e x : TxEntry) (l : List TxEntry) :
    x ∈ insertEntry e l ↔ x = e ∨ x ∈ l := by
  induction l with
  | nil => simp [insertEntry]
  | cons y ys ih =>
    simp only [insertEntry]
    split
    · simp
    · simp only [List.mem_cons, ih]
      tauto

/-- A replaced entry keeps its kind (R13, R14). -/
theorem replaceEntry_kind (t : Telegram) (e : TxEntry) :
    (replaceEntry t e).telegram.kind = e.telegram.kind := by
  unfold replaceEntry
  split
  · rename_i h
    split
    · rfl
    · simp only [replaces, Bool.or_eq_true, Bool.and_eq_true, beq_iff_eq] at h
      rcases h with ⟨h1, h2⟩ | ⟨⟨⟨⟨h1, h2⟩, _⟩, _⟩, _⟩ <;> simp [h1, h2]
  · rfl

/-! ## Fault capture and placement -/

@[simp] theorem placeFault_pending : (placeFault s).pending = s.pending := by
  unfold placeFault; split <;> [rfl; (split <;> rfl)]
@[simp] theorem placeFault_now : (placeFault s).now = s.now := by
  unfold placeFault; split <;> [rfl; (split <;> rfl)]
@[simp] theorem placeFault_straps : (placeFault s).straps = s.straps := by
  unfold placeFault; split <;> [rfl; (split <;> rfl)]
@[simp] theorem placeFault_pins : (placeFault s).pins = s.pins := by
  unfold placeFault; split <;> [rfl; (split <;> rfl)]
@[simp] theorem placeFault_roster : (placeFault s).roster = s.roster := by
  unfold placeFault; split <;> [rfl; (split <;> rfl)]
@[simp] theorem placeFault_vehicle : (placeFault s).vehicle = s.vehicle := by
  unfold placeFault; split <;> [rfl; (split <;> rfl)]
@[simp] theorem placeFault_latch : (placeFault s).latch = s.latch := by
  unfold placeFault; split <;> [rfl; (split <;> rfl)]
@[simp] theorem placeFault_lock : (placeFault s).lock = s.lock := by
  unfold placeFault; split <;> [rfl; (split <;> rfl)]
@[simp] theorem placeFault_release : (placeFault s).release = s.release := by
  unfold placeFault; split <;> [rfl; (split <;> rfl)]
@[simp] theorem placeFault_child : (placeFault s).child = s.child := by
  unfold placeFault; split <;> [rfl; (split <;> rfl)]
@[simp] theorem placeFault_crash : (placeFault s).crash = s.crash := by
  unfold placeFault; split <;> [rfl; (split <;> rfl)]
@[simp] theorem placeFault_window : (placeFault s).window = s.window := by
  unfold placeFault; split <;> [rfl; (split <;> rfl)]
@[simp] theorem placeFault_pack : (placeFault s).pack = s.pack := by
  unfold placeFault; split <;> [rfl; (split <;> rfl)]
@[simp] theorem placeFault_pinch : (placeFault s).pinch = s.pinch := by
  unfold placeFault; split <;> [rfl; (split <;> rfl)]
@[simp] theorem placeFault_touch : (placeFault s).touch = s.touch := by
  unfold placeFault; split <;> [rfl; (split <;> rfl)]
@[simp] theorem placeFault_search : (placeFault s).search = s.search := by
  unfold placeFault; split <;> [rfl; (split <;> rfl)]
@[simp] theorem placeFault_fobs : (placeFault s).fobs = s.fobs := by
  unfold placeFault; split <;> [rfl; (split <;> rfl)]
@[simp] theorem placeFault_rf : (placeFault s).rf = s.rf := by
  unfold placeFault; split <;> [rfl; (split <;> rfl)]
@[simp] theorem placeFault_supply : (placeFault s).supply = s.supply := by
  unfold placeFault; split <;> [rfl; (split <;> rfl)]
@[simp] theorem placeFault_power : (placeFault s).power = s.power := by
  unfold placeFault; split <;> [rfl; (split <;> rfl)]
@[simp] theorem placeFault_settings : (placeFault s).settings = s.settings := by
  unfold placeFault; split <;> [rfl; (split <;> rfl)]

@[simp] theorem captureAwake_pending (k : FaultKind) (a b c : Byte) : (captureAwake k a b c s).pending = s.pending := by
  unfold captureAwake; dsimp only; split <;> simp
@[simp] theorem captureAwake_now (k : FaultKind) (a b c : Byte) : (captureAwake k a b c s).now = s.now := by
  unfold captureAwake; dsimp only; split <;> simp
@[simp] theorem captureAwake_straps (k : FaultKind) (a b c : Byte) : (captureAwake k a b c s).straps = s.straps := by
  unfold captureAwake; dsimp only; split <;> simp
@[simp] theorem captureAwake_pins (k : FaultKind) (a b c : Byte) : (captureAwake k a b c s).pins = s.pins := by
  unfold captureAwake; dsimp only; split <;> simp
@[simp] theorem captureAwake_roster (k : FaultKind) (a b c : Byte) : (captureAwake k a b c s).roster = s.roster := by
  unfold captureAwake; dsimp only; split <;> simp
@[simp] theorem captureAwake_vehicle (k : FaultKind) (a b c : Byte) : (captureAwake k a b c s).vehicle = s.vehicle := by
  unfold captureAwake; dsimp only; split <;> simp
@[simp] theorem captureAwake_latch (k : FaultKind) (a b c : Byte) : (captureAwake k a b c s).latch = s.latch := by
  unfold captureAwake; dsimp only; split <;> simp
@[simp] theorem captureAwake_lock (k : FaultKind) (a b c : Byte) : (captureAwake k a b c s).lock = s.lock := by
  unfold captureAwake; dsimp only; split <;> simp
@[simp] theorem captureAwake_release (k : FaultKind) (a b c : Byte) : (captureAwake k a b c s).release = s.release := by
  unfold captureAwake; dsimp only; split <;> simp
@[simp] theorem captureAwake_child (k : FaultKind) (a b c : Byte) : (captureAwake k a b c s).child = s.child := by
  unfold captureAwake; dsimp only; split <;> simp
@[simp] theorem captureAwake_crash (k : FaultKind) (a b c : Byte) : (captureAwake k a b c s).crash = s.crash := by
  unfold captureAwake; dsimp only; split <;> simp
@[simp] theorem captureAwake_window (k : FaultKind) (a b c : Byte) : (captureAwake k a b c s).window = s.window := by
  unfold captureAwake; dsimp only; split <;> simp
@[simp] theorem captureAwake_pack (k : FaultKind) (a b c : Byte) : (captureAwake k a b c s).pack = s.pack := by
  unfold captureAwake; dsimp only; split <;> simp
@[simp] theorem captureAwake_pinch (k : FaultKind) (a b c : Byte) : (captureAwake k a b c s).pinch = s.pinch := by
  unfold captureAwake; dsimp only; split <;> simp
@[simp] theorem captureAwake_touch (k : FaultKind) (a b c : Byte) : (captureAwake k a b c s).touch = s.touch := by
  unfold captureAwake; dsimp only; split <;> simp
@[simp] theorem captureAwake_search (k : FaultKind) (a b c : Byte) : (captureAwake k a b c s).search = s.search := by
  unfold captureAwake; dsimp only; split <;> simp
@[simp] theorem captureAwake_fobs (k : FaultKind) (a b c : Byte) : (captureAwake k a b c s).fobs = s.fobs := by
  unfold captureAwake; dsimp only; split <;> simp
@[simp] theorem captureAwake_rf (k : FaultKind) (a b c : Byte) : (captureAwake k a b c s).rf = s.rf := by
  unfold captureAwake; dsimp only; split <;> simp
@[simp] theorem captureAwake_supply (k : FaultKind) (a b c : Byte) : (captureAwake k a b c s).supply = s.supply := by
  unfold captureAwake; dsimp only; split <;> simp
@[simp] theorem captureAwake_power (k : FaultKind) (a b c : Byte) : (captureAwake k a b c s).power = s.power := by
  unfold captureAwake; dsimp only; split <;> simp
@[simp] theorem captureAwake_settings (k : FaultKind) (a b c : Byte) : (captureAwake k a b c s).settings = s.settings := by
  unfold captureAwake; dsimp only; split <;> simp

@[simp] theorem place_pending (t : Telegram) : ((place t s).1).pending = s.pending := by
  unfold place; split <;> simp
@[simp] theorem place_now (t : Telegram) : ((place t s).1).now = s.now := by
  unfold place; split <;> simp
@[simp] theorem place_straps (t : Telegram) : ((place t s).1).straps = s.straps := by
  unfold place; split <;> simp
@[simp] theorem place_pins (t : Telegram) : ((place t s).1).pins = s.pins := by
  unfold place; split <;> simp
@[simp] theorem place_roster (t : Telegram) : ((place t s).1).roster = s.roster := by
  unfold place; split <;> simp
@[simp] theorem place_vehicle (t : Telegram) : ((place t s).1).vehicle = s.vehicle := by
  unfold place; split <;> simp
@[simp] theorem place_latch (t : Telegram) : ((place t s).1).latch = s.latch := by
  unfold place; split <;> simp
@[simp] theorem place_lock (t : Telegram) : ((place t s).1).lock = s.lock := by
  unfold place; split <;> simp
@[simp] theorem place_release (t : Telegram) : ((place t s).1).release = s.release := by
  unfold place; split <;> simp
@[simp] theorem place_child (t : Telegram) : ((place t s).1).child = s.child := by
  unfold place; split <;> simp
@[simp] theorem place_crash (t : Telegram) : ((place t s).1).crash = s.crash := by
  unfold place; split <;> simp
@[simp] theorem place_window (t : Telegram) : ((place t s).1).window = s.window := by
  unfold place; split <;> simp
@[simp] theorem place_pack (t : Telegram) : ((place t s).1).pack = s.pack := by
  unfold place; split <;> simp
@[simp] theorem place_pinch (t : Telegram) : ((place t s).1).pinch = s.pinch := by
  unfold place; split <;> simp
@[simp] theorem place_touch (t : Telegram) : ((place t s).1).touch = s.touch := by
  unfold place; split <;> simp
@[simp] theorem place_search (t : Telegram) : ((place t s).1).search = s.search := by
  unfold place; split <;> simp
@[simp] theorem place_fobs (t : Telegram) : ((place t s).1).fobs = s.fobs := by
  unfold place; split <;> simp
@[simp] theorem place_rf (t : Telegram) : ((place t s).1).rf = s.rf := by
  unfold place; split <;> simp
@[simp] theorem place_supply (t : Telegram) : ((place t s).1).supply = s.supply := by
  unfold place; split <;> simp
@[simp] theorem place_power (t : Telegram) : ((place t s).1).power = s.power := by
  unfold place; split <;> simp
@[simp] theorem place_settings (t : Telegram) : ((place t s).1).settings = s.settings := by
  unfold place; split <;> simp

/-! ## The own STATE and the end of an event -/

@[simp] theorem placeState_pending : (placeState s).pending = s.pending := by
  simp [placeState]
@[simp] theorem placeState_now : (placeState s).now = s.now := by
  simp [placeState]
@[simp] theorem placeState_straps : (placeState s).straps = s.straps := by
  simp [placeState]
@[simp] theorem placeState_pins : (placeState s).pins = s.pins := by
  simp [placeState]
@[simp] theorem placeState_vehicle : (placeState s).vehicle = s.vehicle := by
  simp [placeState]
@[simp] theorem placeState_latch : (placeState s).latch = s.latch := by
  simp [placeState]
@[simp] theorem placeState_lock : (placeState s).lock = s.lock := by
  simp [placeState]
@[simp] theorem placeState_release : (placeState s).release = s.release := by
  simp [placeState]
@[simp] theorem placeState_child : (placeState s).child = s.child := by
  simp [placeState]
@[simp] theorem placeState_crash : (placeState s).crash = s.crash := by
  simp [placeState]
@[simp] theorem placeState_window : (placeState s).window = s.window := by
  simp [placeState]
@[simp] theorem placeState_pack : (placeState s).pack = s.pack := by
  simp [placeState]
@[simp] theorem placeState_pinch : (placeState s).pinch = s.pinch := by
  simp [placeState]
@[simp] theorem placeState_touch : (placeState s).touch = s.touch := by
  simp [placeState]
@[simp] theorem placeState_search : (placeState s).search = s.search := by
  simp [placeState]
@[simp] theorem placeState_fobs : (placeState s).fobs = s.fobs := by
  simp [placeState]
@[simp] theorem placeState_rf : (placeState s).rf = s.rf := by
  simp [placeState]
@[simp] theorem placeState_supply : (placeState s).supply = s.supply := by
  simp [placeState]
@[simp] theorem placeState_power : (placeState s).power = s.power := by
  simp [placeState]
@[simp] theorem placeState_settings : (placeState s).settings = s.settings := by
  simp [placeState]

@[simp] theorem reportOnce_pending : (reportOnce s).pending = s.pending := by
  unfold reportOnce; split <;> simp
@[simp] theorem reportOnce_now : (reportOnce s).now = s.now := by
  unfold reportOnce; split <;> simp
@[simp] theorem reportOnce_straps : (reportOnce s).straps = s.straps := by
  unfold reportOnce; split <;> simp
@[simp] theorem reportOnce_pins : (reportOnce s).pins = s.pins := by
  unfold reportOnce; split <;> simp
@[simp] theorem reportOnce_vehicle : (reportOnce s).vehicle = s.vehicle := by
  unfold reportOnce; split <;> simp
@[simp] theorem reportOnce_latch : (reportOnce s).latch = s.latch := by
  unfold reportOnce; split <;> simp
@[simp] theorem reportOnce_lock : (reportOnce s).lock = s.lock := by
  unfold reportOnce; split <;> simp
@[simp] theorem reportOnce_release : (reportOnce s).release = s.release := by
  unfold reportOnce; split <;> simp
@[simp] theorem reportOnce_child : (reportOnce s).child = s.child := by
  unfold reportOnce; split <;> simp
@[simp] theorem reportOnce_crash : (reportOnce s).crash = s.crash := by
  unfold reportOnce; split <;> simp
@[simp] theorem reportOnce_window : (reportOnce s).window = s.window := by
  unfold reportOnce; split <;> simp
@[simp] theorem reportOnce_pack : (reportOnce s).pack = s.pack := by
  unfold reportOnce; split <;> simp
@[simp] theorem reportOnce_pinch : (reportOnce s).pinch = s.pinch := by
  unfold reportOnce; split <;> simp
@[simp] theorem reportOnce_touch : (reportOnce s).touch = s.touch := by
  unfold reportOnce; split <;> simp
@[simp] theorem reportOnce_search : (reportOnce s).search = s.search := by
  unfold reportOnce; split <;> simp
@[simp] theorem reportOnce_fobs : (reportOnce s).fobs = s.fobs := by
  unfold reportOnce; split <;> simp
@[simp] theorem reportOnce_rf : (reportOnce s).rf = s.rf := by
  unfold reportOnce; split <;> simp
@[simp] theorem reportOnce_supply : (reportOnce s).supply = s.supply := by
  unfold reportOnce; split <;> simp
@[simp] theorem reportOnce_power : (reportOnce s).power = s.power := by
  unfold reportOnce; split <;> simp
@[simp] theorem reportOnce_settings : (reportOnce s).settings = s.settings := by
  unfold reportOnce; split <;> simp

@[simp] theorem reportChanges_pending : (reportChanges s).pending = s.pending := by
  simp [reportChanges]
@[simp] theorem reportChanges_now : (reportChanges s).now = s.now := by
  simp [reportChanges]
@[simp] theorem reportChanges_straps : (reportChanges s).straps = s.straps := by
  simp [reportChanges]
@[simp] theorem reportChanges_pins : (reportChanges s).pins = s.pins := by
  simp [reportChanges]
@[simp] theorem reportChanges_vehicle : (reportChanges s).vehicle = s.vehicle := by
  simp [reportChanges]
@[simp] theorem reportChanges_latch : (reportChanges s).latch = s.latch := by
  simp [reportChanges]
@[simp] theorem reportChanges_lock : (reportChanges s).lock = s.lock := by
  simp [reportChanges]
@[simp] theorem reportChanges_release : (reportChanges s).release = s.release := by
  simp [reportChanges]
@[simp] theorem reportChanges_child : (reportChanges s).child = s.child := by
  simp [reportChanges]
@[simp] theorem reportChanges_crash : (reportChanges s).crash = s.crash := by
  simp [reportChanges]
@[simp] theorem reportChanges_window : (reportChanges s).window = s.window := by
  simp [reportChanges]
@[simp] theorem reportChanges_pack : (reportChanges s).pack = s.pack := by
  simp [reportChanges]
@[simp] theorem reportChanges_pinch : (reportChanges s).pinch = s.pinch := by
  simp [reportChanges]
@[simp] theorem reportChanges_touch : (reportChanges s).touch = s.touch := by
  simp [reportChanges]
@[simp] theorem reportChanges_search : (reportChanges s).search = s.search := by
  simp [reportChanges]
@[simp] theorem reportChanges_fobs : (reportChanges s).fobs = s.fobs := by
  simp [reportChanges]
@[simp] theorem reportChanges_rf : (reportChanges s).rf = s.rf := by
  simp [reportChanges]
@[simp] theorem reportChanges_supply : (reportChanges s).supply = s.supply := by
  simp [reportChanges]
@[simp] theorem reportChanges_power : (reportChanges s).power = s.power := by
  simp [reportChanges]
@[simp] theorem reportChanges_settings : (reportChanges s).settings = s.settings := by
  simp [reportChanges]

@[simp] theorem judgeSleep_pending : (judgeSleep s).pending = s.pending := by
  unfold judgeSleep; repeat (first | rfl | split)
@[simp] theorem judgeSleep_now : (judgeSleep s).now = s.now := by
  unfold judgeSleep; repeat (first | rfl | split)
@[simp] theorem judgeSleep_straps : (judgeSleep s).straps = s.straps := by
  unfold judgeSleep; repeat (first | rfl | split)
@[simp] theorem judgeSleep_pins : (judgeSleep s).pins = s.pins := by
  unfold judgeSleep; repeat (first | rfl | split)
@[simp] theorem judgeSleep_link : (judgeSleep s).link = s.link := by
  unfold judgeSleep; repeat (first | rfl | split)
@[simp] theorem judgeSleep_roster : (judgeSleep s).roster = s.roster := by
  unfold judgeSleep; repeat (first | rfl | split)
@[simp] theorem judgeSleep_vehicle : (judgeSleep s).vehicle = s.vehicle := by
  unfold judgeSleep; repeat (first | rfl | split)
@[simp] theorem judgeSleep_latch : (judgeSleep s).latch = s.latch := by
  unfold judgeSleep; repeat (first | rfl | split)
@[simp] theorem judgeSleep_lock : (judgeSleep s).lock = s.lock := by
  unfold judgeSleep; repeat (first | rfl | split)
@[simp] theorem judgeSleep_release : (judgeSleep s).release = s.release := by
  unfold judgeSleep; repeat (first | rfl | split)
@[simp] theorem judgeSleep_child : (judgeSleep s).child = s.child := by
  unfold judgeSleep; repeat (first | rfl | split)
@[simp] theorem judgeSleep_crash : (judgeSleep s).crash = s.crash := by
  unfold judgeSleep; repeat (first | rfl | split)
@[simp] theorem judgeSleep_window : (judgeSleep s).window = s.window := by
  unfold judgeSleep; repeat (first | rfl | split)
@[simp] theorem judgeSleep_pack : (judgeSleep s).pack = s.pack := by
  unfold judgeSleep; repeat (first | rfl | split)
@[simp] theorem judgeSleep_pinch : (judgeSleep s).pinch = s.pinch := by
  unfold judgeSleep; repeat (first | rfl | split)
@[simp] theorem judgeSleep_touch : (judgeSleep s).touch = s.touch := by
  unfold judgeSleep; repeat (first | rfl | split)
@[simp] theorem judgeSleep_search : (judgeSleep s).search = s.search := by
  unfold judgeSleep; repeat (first | rfl | split)
@[simp] theorem judgeSleep_fobs : (judgeSleep s).fobs = s.fobs := by
  unfold judgeSleep; repeat (first | rfl | split)
@[simp] theorem judgeSleep_rf : (judgeSleep s).rf = s.rf := by
  unfold judgeSleep; repeat (first | rfl | split)
@[simp] theorem judgeSleep_supply : (judgeSleep s).supply = s.supply := by
  unfold judgeSleep; repeat (first | rfl | split)
@[simp] theorem judgeSleep_faults : (judgeSleep s).faults = s.faults := by
  unfold judgeSleep; repeat (first | rfl | split)
@[simp] theorem judgeSleep_settings : (judgeSleep s).settings = s.settings := by
  unfold judgeSleep; repeat (first | rfl | split)

/-- Placing the own STATE leaves the peer records as they are. -/
@[simp] theorem placeState_peers : (placeState s).roster.peers = s.roster.peers := by
  simp [placeState]

@[simp] theorem reportOnce_peers : (reportOnce s).roster.peers = s.roster.peers := by
  unfold reportOnce; split <;> simp

@[simp] theorem reportChanges_peers : (reportChanges s).roster.peers = s.roster.peers := by
  simp [reportChanges]

/-- An event whose condition holds ends with `conclude`. -/
theorem event_of_true {c : Bool} (f : State → State) (h : c = true) :
    event c f s = .next (conclude (f s)) := by
  simp [event, goOn, h]

/-- An event that cannot arise changes nothing. -/
theorem event_of_false {c : Bool} (f : State → State) (h : c = false) : event c f s = .next s := by
  simp [event, goOn, h]

/-- A taking of the head message under its own row, at a station that reads. -/
theorem taking_of_head {row : Instr} {m : Message} {t : Nat} (f : Message → Nat → State → State)
    (h : headMessage s = some (m, t)) (hr : takingOf m = row) (ha : reading s = true) :
    taking row f s = .next (conclude (f m t (popRx s))) := by
  unfold reading at ha
  simp [taking, h, event, goOn, hr, ha]

/-! ## Tables -/

/-- The entries of a mapped table. -/
theorem vmap_toList {α β : Type} {n : Nat} (f : α → β) (v : Vector α n) :
    (vmap f v).toArray.toList = v.toArray.toList.map f := rfl

/-- An entry of a mapped table. -/
@[simp] theorem vmap_getElem {α β : Type} {n : Nat} (f : α → β) (v : Vector α n) (i : Nat) (h : i < n) :
    (vmap f v)[i] = f v[i] := by
  simp [vmap]

/-! ## Time -/

/-- Time passing leaves every decided value as it is: only timers change. -/
theorem elapse_frame (n : Nat) :
    (elapse n s).pending = s.pending ∧ (elapse n s).straps = s.straps ∧
    (elapse n s).fobs = s.fobs ∧ (elapse n s).faults = s.faults ∧
    (elapse n s).latch.target = s.latch.target ∧ (elapse n s).latch.observed = s.latch.observed ∧
    (elapse n s).latch.phase = s.latch.phase ∧ (elapse n s).crash.hold = s.crash.hold ∧
    (elapse n s).pins.doorOpen = s.pins.doorOpen ∧ (elapse n s).link.tx = s.link.tx ∧
    (elapse n s).link.rx = s.link.rx ∧ (elapse n s).link.state = s.link.state := by
  unfold elapse
  split
  · simp
  · dsimp only
    split
    · simp [elapseBase, elapseLink]
    · unfold elapseWindowPart
      split <;> split <;> simp [elapseAwake, elapseAlways, elapseBase, elapseLatch, elapseLink]

/-! ## The receive queue -/

/-- A taking drops the oldest telegram and changes nothing else of the link but the takings (R17). -/
theorem linkTaken_frame (now : Nat) (l : Link) :
    linkTaken now l = { l with rx := l.rx.drop 1, taken := (linkTaken now l).taken } := by
  unfold linkTaken
  split
  · cases l
    simp_all
  · simp_all

end Sys2Proof.Machine
end

