-- ==== Sys2Proof/Laws/Machine.lean ====
section
/-! SUPPORT. The shared operations in the states in which most meanings call them: a station that is AWAKE,
a window with or without a move, a latch write that is taken or not. -/

namespace Sys2Proof.Machine

variable (s : State)

/-- An acting station is running, has valid straps and is AWAKE. -/
theorem active_iff :
    active s = true ↔ s.supply.heldInReset = false ∧ configFault s = false ∧ s.power.asleep = false := by
  simp [active, operating, running, and_assoc]

/-- A waking station that is AWAKE stays as it is (R180). -/
theorem wake_of_awake (h : s.power.asleep = false) : wake s = s := by simp [wake, h]

/-- A capture at a station that is AWAKE does not wake (R181). -/
theorem capture_of_awake (k : FaultKind) (a b c : Byte) (h : s.power.asleep = false) :
    capture k a b c s = captureAwake k a b c s := by simp [capture, wake_of_awake s h]

/-- An input change at a station that is AWAKE only ends the debounce of that input. -/
theorem inputChange_of_awake (i : SwitchInput) (h : s.power.asleep = false) :
    inputChange i s = debounced i s := by simp [inputChange, wake_of_awake s h]

/-- With no debounce running, the debounce of an input changes nothing. -/
theorem debounced_of_none (i : SwitchInput) (h : s.pins.wakeDebounce = none) : debounced i s = s := by
  cases s with
  | mk pending now straps pins =>
    cases pins
    simp_all [debounced]

/-- A station held in reset concludes nothing (R177). -/
theorem conclude_of_held (h : running s = false) : conclude s = s := by simp [conclude, h]

/-- What a reading of the line outside a telegram does (R1, R21, R22): the level and the counts, and the start
bit of a telegram after 10 recessive bits; the queues and the link state are left alone. -/
theorem lineRead_cases (n : Nat) (l : Link) :
    (n ≠ 0 ∧ lineRead n l =
      { l with level := .recessive, dominantFor := 0, recessiveFor := min 10000 (n * 20) }) ∨
    (n = 0 ∧ lineIdle l = true ∧ lineRead n l =
      { l with
        insideTelegram := true, level := .dominant, dominantFor := 0, recessiveFor := 0, tailFor := 0 }) ∨
    (n = 0 ∧ lineIdle l = false ∧ lineRead n l =
      { l with
        level := .dominant, recessiveFor := 0, tailFor := 0
        dominantFor := if l.level = .dominant then l.dominantFor else 20 }) := by
  unfold lineRead
  split
  · exact .inl ⟨‹_›, rfl⟩
  · have hn : n = 0 := by omega
    split
    · exact .inr (.inl ⟨hn, ‹_›, rfl⟩)
    · exact .inr (.inr ⟨hn, by simpa using ‹¬ lineIdle l = true›, rfl⟩)

/-- A node set holds a node where its test holds. -/
theorem nodeSet_getLsbD (f : Fin 8 → Bool) (k : Fin 8) : (nodeSet f).getLsbD k.val = f k := by
  have h : ∀ a b c d e g i j : Bool, ∀ k : Fin 8,
      (nodeSet fun n => #v[a, b, c, d, e, g, i, j][n]).getLsbD k.val = #v[a, b, c, d, e, g, i, j][k] := by
    decide +kernel
  have hf : f = fun n => #v[f 0, f 1, f 2, f 3, f 4, f 5, f 6, f 7][n] := by
    funext n
    rcases n with ⟨n, hn⟩
    interval_cases n <;> rfl
  rw [hf]
  exact h ..

/-- What the roster showed then: what it shows now, or what it showed before the first change since (R9). -/
theorem shownAt_cases (age : Nat) :
    ((∀ x ∈ s.roster.earlier, x.upTo + age ≤ s.now) ∧ shownAt age s = shownNodes s) ∨
    ∃ pre x post, s.roster.earlier = pre ++ x :: post ∧ (∀ y ∈ pre, y.upTo + age ≤ s.now) ∧
      s.now < x.upTo + age ∧ shownAt age s = x.shown := by
  unfold shownAt
  cases h : s.roster.earlier.find? fun x => decide (s.now < x.upTo + age) with
  | none => exact .inl ⟨by simpa using h, rfl⟩
  | some x =>
    obtain ⟨hx, pre, post, he, hp⟩ := List.find?_eq_some_iff_append.mp h
    exact .inr ⟨pre, x, post, he, by simpa using hp, by simpa using hx, rfl⟩

/-- The recessive bits at the end of bits read one after the other. -/
theorem recessiveRun_append (a b : List Bool) :
    recessiveRun (a ++ b) = if b.all id then b.length + recessiveRun a else recessiveRun b := by
  unfold recessiveRun
  rw [List.reverse_append, List.takeWhile_append]
  by_cases h : b.all id
  · have hb : b.reverse.takeWhile id = b.reverse := by
      rw [List.takeWhile_eq_self_iff]; simpa using h
    simp [hb, h]
  · have hb : (b.reverse.takeWhile id).length ≠ b.reverse.length := fun hl => h (by
      have := List.takeWhile_eq_self_iff.mp ((List.takeWhile_prefix id).eq_of_length hl)
      simpa using this)
    simp only [if_neg hb, h]; rfl

/-- The recessive bits at the end of a telegram: the end bits, the slots after the last dominant one, and with
no dominant slot the last bits to the check field (R22). -/
theorem recessiveRun_completeBits (f : LineFrame) :
    recessiveRun (completeBits f) =
      if f.slots = 0 then 12 + recessiveTail f else 11 - Nat.log2 f.slots.toNat := by
  have h : ∀ slots : Byte,
      (((List.range 8).map (fun k => !slots.getLsbD k)).all id = decide (slots = 0)) ∧
      recessiveRun ((List.range 8).map (fun k => !slots.getLsbD k)) =
        (if slots = 0 then 8 else 7 - Nat.log2 slots.toNat) := by decide +kernel
  rw [completeBits, recessiveRun_append, recessiveRun_append, (h f.slots).1, (h f.slots).2]
  have hl : f.slots.toNat.log2 ≤ 7 := by
    have : ∀ slots : Byte, slots.toNat.log2 ≤ 7 := by decide +kernel
    exact this _
  by_cases hz : f.slots = 0
  · simp [hz, recessiveTail]; omega
  · have h4 : (List.replicate 4 true).all id = true := rfl
    rw [if_pos h4, if_neg (by simpa using hz), if_neg hz, if_neg hz]
    simp; omega
/-- A line is read as dominant or recessive, so LINE_STUCK and STUCK_RELEASE are never due together. -/
theorem lineStuck_lineFree (l : Link) : ¬ (lineStuck l = true ∧ lineFree l = true) := by
  cases h : l.state <;> simp [lineStuck, lineFree, h]

/-- A mark of a record that is marked changes nothing (R184). -/
theorem markRecord_of_mem (r : RecordName) (h : r ∈ s.settings.writes) : markRecord r s = s := by
  simp [markRecord, h]

/-- No timer of a list runs where none is the first to expire. -/
theorem firstTimer_none (left : WindowTimer → Option Nat) (xs : List WindowTimer)
    (h : firstTimer left xs = none) : ∀ x ∈ xs, left x = none := by
  induction xs with
  | nil => simp
  | cons a as ih =>
    cases ha : left a <;> cases hr : firstTimer left as <;> simp_all [firstTimer]
    split at h <;> simp at h

/-- The first timer to expire is one of the list, runs, and no other of the list expires before it. -/
theorem firstTimer_some (left : WindowTimer → Option Nat) (xs : List WindowTimer) (x : WindowTimer) (t : Nat)
    (h : firstTimer left xs = some (x, t)) :
    x ∈ xs ∧ left x = some t ∧ ∀ y ∈ xs, ∀ u, left y = some u → t ≤ u := by
  induction xs generalizing x t with
  | nil => simp [firstTimer] at h
  | cons a as ih =>
    cases hr : firstTimer left as with
    | none =>
      have hn := firstTimer_none left as hr
      cases ha : left a <;> simp_all [firstTimer]
    | some r =>
      obtain ⟨hm, hl, hle⟩ := ih r.1 r.2 hr
      cases ha : left a with
      | none =>
        simp only [firstTimer, ha, hr, Option.some.injEq] at h
        subst h
        exact ⟨.tail _ hm, hl, by simpa [ha] using hle⟩
      | some u =>
        simp only [firstTimer, ha, hr] at h
        split at h <;> cases h
        · exact ⟨.head _, ha, fun y hy v hv => by
            rcases List.mem_cons.mp hy with rfl | hy
            · simp_all
            · exact Nat.le_trans ‹_› (hle y hy v hv)⟩
        · exact ⟨.tail _ hm, hl, fun y hy v hv => by
            rcases List.mem_cons.mp hy with rfl | hy
            · simp_all; omega
            · exact hle y hy v hv⟩

/-- Every timer of the window is in the list. -/
theorem mem_windowTimers (x : WindowTimer) : x ∈ windowTimers := by cases x <;> decide

/-- Where no timer of window drive expires before the end of the time a step brings, that time passes (R98,
R125). -/
theorem elapseTimers_of_none (k n : Nat) (h : ∀ x t, untilTimer s x = some t → n ≤ t) :
    elapseTimers k n s = elapse n s := by
  cases k with
  | zero => rfl
  | succ k =>
    cases hf : firstTimer (untilTimer s) windowTimers with
    | none => simp [elapseTimers, hf]
    | some r =>
      have hr := h r.1 r.2 (firstTimer_some _ _ _ _ hf).2.1
      simp [elapseTimers, hf, Nat.not_lt.mpr hr]

/-- The first timer of window drive that expires before the end of that time is an event in its place. -/
theorem elapseTimers_of_first (k n t : Nat) (x : WindowTimer)
    (h : firstTimer (untilTimer s) windowTimers = some (x, t)) (ht : t < n) :
    elapseTimers (k + 1) n s = elapseTimers k (n - t) (conclude (expire x (elapse t s))) := by
  simp [elapseTimers, h, ht]

/-- The thermal limit is not reached, or no run is there to end (R113). -/
theorem thermalEnd_of_not (h : ¬ (s.window.heat = 1000 ∧ s.window.bridge = .drive)) :
    thermalEnd s = s := by simp [thermalEnd, h]

/-- No move, no ending (R112). -/
theorem endMove_of_none (m : Manner) (a b : Bool) (r : StopReason) (h : s.window.move = none) :
    endMove m a b r s = s := by simp [endMove, h]

/-- The ending of a move (R112). -/
theorem endMove_of_some (m : Manner) (a b : Bool) (r : StopReason) (v : Move)
    (h : s.window.move = some v) :
    endMove m a b r s = handAccumulators a (onWindow (endMoveWindow m a b r v) s) := by
  simp [endMove, h]

/-- The reversal counter's update leaves the move record and the stop reason alone. -/
theorem endCounter_record (b : Bool) (w : Window) :
    (endCounter b w).move = w.move ∧ (endCounter b w).stopReason = w.stopReason := by
  unfold endCounter
  split
  · exact ⟨rfl, rfl⟩
  · split <;> exact ⟨rfl, rfl⟩

/-- Setting the holds leaves the move record and the stop reason alone. -/
theorem setHolds_record (v : Move) (w : Window) :
    (setHolds v w).move = w.move ∧ (setHolds v w).stopReason = w.stopReason := by
  unfold setHolds
  split
  · exact ⟨rfl, rfl⟩
  · split <;> exact ⟨rfl, rfl⟩

/-- An ended move leaves the move record empty and takes the stop reason (R100, R112). -/
theorem endMoveWindow_record (m : Manner) (a b : Bool) (r : StopReason) (v : Move) (w : Window) :
    (endMoveWindow m a b r v w).move = none ∧ (endMoveWindow m a b r v w).stopReason = r := by
  unfold endMoveWindow
  cases b <;> simp [endCounter_record, setHolds_record]

/-- A write that R45 does not take leaves the record unchanged. -/
theorem latchWriteGated_refused (hold door ok : Bool) (t : LatchTarget) (l : Latch)
    (h : (hold && t != .unlocked) || (door && t == .deadlocked)) :
    latchWriteGated hold door ok t l = l := by simp [latchWriteGated, h]

/-- A write of UNLOCKED is always taken (R45). -/
theorem latchWriteGated_unlocked (hold door ok : Bool) (l : Latch) :
    latchWriteGated hold door ok .unlocked l = latchWrite ok .unlocked l := by
  simp [latchWriteGated]

/-- A write that starts a pursuit leaves the target written (R46). -/
theorem startPursuit_target (ok : Bool) (t : LatchTarget) (c : Bool) (l : Latch) :
    (startPursuit ok t c l).target = t := by
  unfold startPursuit
  dsimp only
  split
  · rfl
  · unfold enterDrive
    split <;> rfl

end Sys2Proof.Machine
end

