-- ==== Sys2Proof/Tests/Slice0.lean ====
section
/-! SUPPORT. The author's own tests: one ill-formed term for each check of `WellFormed`, the worked
examples of the spec, and for every statement with hypotheses a state and operands that meet them, clause
by clause. A test on fixed values is a check of this work, never a statement for the provers. -/

open Sys2Proof Sys2Proof.Machine Sys2Proof.Safety Sys2Proof.Claims

namespace Sys2Proof.Tests

/-! ## Small states -/

/-- The station after reset: FL, the driver station of a left-hand-drive five-door. -/
def fl : State := State.reset

/-- The same station strapped to another position. -/
def at_ (n : Fin 8) (s : State) : State := { s with straps := { s.straps with position := n } }

/-- The latch record changed. -/
def lat (f : Latch → Latch) (s : State) : State := { s with latch := f s.latch }

/-- The window record changed. -/
def win (f : Window → Window) (s : State) : State := { s with window := f s.window }

/-- The intent record changed. -/
def lok (f : LockLogic → LockLogic) (s : State) : State := { s with lock := f s.lock }

/-- The inputs changed. -/
def pin (f : Pins → Pins) (s : State) : State := { s with pins := f s.pins }

/-- The link changed. -/
def lnk (f : Link → Link) (s : State) : State := { s with link := f s.link }

/-- The search record changed. -/
def sea (f : Search → Search) (s : State) : State := { s with search := f s.search }

/-- The power record changed. -/
def pow (f : Power → Power) (s : State) : State := { s with power := f s.power }

/-- A peer record changed. -/
def peerAt (n : Fin 8) (f : Peer → Peer) (s : State) : State :=
  { s with roster := { s.roster with peers := s.roster.peers.set n.val (f s.roster.peers[n]) n.isLt } }

/-- A telegram waits at the head of the receive queue, received at instant 0. -/
def got (k : BitVec 4) (n : BitVec 3) (p : List Byte) : State :=
  lnk (fun l => { l with rx := [⟨⟨k, n, p⟩, 0⟩] }) fl

/-- A running move. -/
def mv (k : MoveKind) (d : Dir) (src : MoveSource) : Move :=
  { kind := k, dir := d, source := src, lease := none, target := .none }

/-- A run in a direction. -/
def rn (d : Dir) : Run :=
  { dir := d, ramp := 160, rampTimer := 0, openLoad := some 0, stall := 0, override := false }

/-- A window that drives for a move. -/
def driving (m : Move) (s : State) : State :=
  win (fun w => { w with bridge := .drive, run := some (rn m.dir), move := some m }) s

/-- An entry of the transmit queue in its attempt. -/
def inTx (k : BitVec 4) (p : List Byte) (n : Nat) (w : Option Telegram) : TxEntry :=
  { telegram := ⟨k, 0, p⟩, attempts := n, missing := 0, inAttempt := true, waiting := w }

/-- The transmit queue. -/
def tx (l : List TxEntry) (s : State) : State := lnk (fun k => { k with tx := l }) s

/-- The dispatcher of `s` reads the head as `m`, received at instant 0. -/
def reads (s : State) (m : Message) : Bool :=
  running s && !s.power.asleep && headMessage s == some (m, 0)

/-- `reads` is the hypothesis of the statements about taken telegrams. -/
theorem takes_of_reads (s : State) (m : Message) (h : reads s m = true) : takes s m 0 := by
  simp only [reads, Bool.and_eq_true, Bool.not_eq_true', beq_iff_eq] at h
  refine ⟨h.1.1, h.1.2, ?_⟩
  cases hr : s.link.rx with
  | nil => simp [headMessage, hr] at h
  | cons e rest =>
    simp only [headMessage, hr, Option.some.injEq, Prod.mk.injEq] at h
    exact ⟨e, rest, rfl, h.2.2.symm, h.2.1.symm⟩

/-! ## WellFormed: an ill-formed term for each check -/

/-- A frame that announces two bytes and carries one. -/
def shortFrame : LineFrame := { kind := 8, sender := 1, length := 2, payload := [0], check := 0, slots := 0 }

theorem test_wf_telegram : (Instr.telegramReceived shortFrame).ill = some .payloadLength := by decide
theorem test_wf_checkError : (Instr.plainCheckError shortFrame).ill = some .payloadLength := by decide
theorem test_wf_abort :
    (Instr.abort (.cutShort shortFrame)).ill = some .payloadLength ∧
      (Instr.abort (.dominantEndBit shortFrame 0)).ill = some .payloadLength := by decide
theorem test_wf_measurement :
    (Instr.measurementEnd 5001).ill = some .cycles ∧ (Instr.measurementEnd 5000).wf = true := by decide
theorem test_wf_supply :
    (Instr.supplySample 65536).ill = some .supplyRange ∧ (Instr.supplySample 65535).wf = true := by decide
theorem test_wf_powerOn :
    (Instr.powerOn { noInputs fl.straps with supplyMillivolt := 65536 }).ill = some .supplyRange ∧
      (Instr.powerOn (noInputs fl.straps)).wf = true := by decide
theorem test_wf_filter :
    (Instr.filterLifeExpiry 5 .lockreq).ill = some .noSuchNode ∧
      (Instr.filterLifeExpiry 4 .lockreq).wf = true := by decide

/-! ## The spec's worked examples -/

/-- Section 7.6: the zones and sectors of P_top 2210 and 700. -/
theorem test_pinch_zone_sectors :
    sectorIndex 2210 1410 = 20 ∧ sectorIndex 2210 2194 = 31 ∧ sectorIndex 700 0 = 0 ∧
      sectorIndex 700 684 = 31 ∧ inPinchZone 2210 1410 = true ∧ inPinchZone 2210 1409 = false ∧
      inPinchZone 2210 2194 = true ∧ inPinchZone 2210 2195 = false := by decide

/-- Worked example "a pinch detection sequence": E, F and S at each of the five steps. -/
theorem test_pinch_sequence_filter :
    filterPeriod (some 330) 372 = 341 ∧ filterPeriod (some 341) 480 = 376 ∧
      filterPeriod (some 376) 560 = 422 ∧ filterPeriod (some 422) 640 = 477 ∧
      filterPeriod (some 477) 700 = 533 := by decide
theorem test_pinch_sequence_slowdown :
    expectedPeriod ⟨300, 5⟩ ⟨1, 130⟩ 118 = 331 ∧ slowdown 341 331 = 7 ∧ slowdown 376 331 = 34 ∧
      slowdown 422 331 = 70 ∧ slowdown 477 331 = 112 ∧ slowdown 533 331 = 156 := by decide

/-- The example's fifth step: the count reaches 3 and the pinch is declared. -/
theorem test_pinch_sequence_declares :
    (pinchUpStep
      { knowledge := .positioned, pTop := 2210, p := 1804, ramp := 400, override := false, supply := 118,
        sTh := 38 }
      { fl.pinch with
        profile := Vector.replicate 32 ⟨300, 5⟩, counter := some 5600, stepCount := 25,
        blanking := false, filtered := some 477, fallback := some ⟨330, 118⟩, count := 2 }).2 = true := by
  decide

/-- The example's window percent: (1804 × 100 + 1105) div 2210 = 82. -/
theorem test_pinch_percent :
    windowPercent { fl.window with knowledge := .positioned, pTop := some 2210, p := 1804 } = 82 := by
  decide

/-- Worked example "learning in one sector". -/
theorem test_learning :
    learnSector ⟨300, 5⟩ ⟨21528, 69⟩ = ⟨301, 6⟩ ∧ learnSector ⟨301, 6⟩ ⟨20010, 69⟩ = ⟨300, 7⟩ ∧
      learnSector ⟨300, 7⟩ ⟨20700, 69⟩ = ⟨300, 8⟩ ∧ normalised 330 118 = 300 ∧
      normalised 330 130 = 330 ∧ normalised 341 118 = 310 := by decide

/-- Worked example "a case at the limits": the fallback at 12.8 V, 17.5 V and 8.4 V. -/
theorem test_fallback :
    expectedPeriod ⟨1, 0⟩ ⟨300, 128⟩ 128 = 300 ∧ expectedPeriod ⟨1, 0⟩ ⟨300, 128⟩ 160 = 240 ∧
      expectedPeriod ⟨1, 0⟩ ⟨300, 128⟩ 90 = 427 ∧ normalised 300 128 = 295 := by decide

/-- Worked example "two localisation cases": the adjusted readings of case 1 and case 2. -/
theorem test_localisation :
    locate [0, 0, 89, 144, 118] 76 = .outsideAt 3 ∧ locate [0, 0, 89, 144, 138] 76 = .outsideNear 3 ∧
      locate [20, 0, 97, 138, 90] 130 = .inside ∧ locate [20, 0, 97, 138, 90] 0 = .outsideAt 3 := by
  decide

/-- Worked example "a fob out of step resynchronising": 7071 against 7040 and against 7000, then 7072. -/
def press (c : BitVec 24) : FobReport :=
  { search := 0, fob := 3, command := .lock, fobByte := 0xC2, counter := c, readings := [], tag := 1 }
def entry (c : BitVec 24) (k : Option (BitVec 24)) : Fob :=
  { enrolled := true, key := 0, counter := c, lastTag := none, candidate := k }
theorem test_resync :
    counterWindow (press 7071) (entry 7040 none) = .accepted ∧
      counterWindow (press 7071) (entry 7000 none) = .candidate ∧
      counterWindow (press 7072) (entry 7000 (some 7071)) = .accepted ∧
      counterWindow (press 11141) (entry 7040 none) = .rejected ∧
      counterWindow (press 11141) (entry 7000 none) = .rejected := by decide

/-- Section 1.9: telegram bits, 32 + 8n. -/
theorem test_telegram_bits : telegramBits 9 = 104 ∧ (drivenBits ⟨8, 0, [1, 2]⟩).length + 12 = 48 := by
  decide

/-- The bits of eight sectors at their defaults, so that the CRC of a window record is taken in parts. -/
def eightSectors : List Bool := (List.replicate 8 ([0, 1, 0] : List Byte)).flatten.flatMap bitsMsb

theorem windowBits_defaults :
    (recordBytes (.windowRecord WindowRecord.defaults)).flatMap bitsMsb =
      ([0, 0, 0, 0, 0, 0] : List Byte).flatMap bitsMsb ++ eightSectors ++ eightSectors ++ eightSectors ++
        eightSectors ++ bitsMsb (0 : Byte) := by decide +kernel

theorem test_factory_window_check :
    Store.factory.windowCheck = recordCheck (.windowRecord WindowRecord.defaults) := by
  rw [recordCheck, windowBits_defaults]
  simp only [crc8, List.foldl_append]
  rw [show (([0, 0, 0, 0, 0, 0] : List Byte).flatMap bitsMsb).foldl (crcStep 0x1D) 0xFF = 0x09 by
      decide +kernel,
    show eightSectors.foldl (crcStep 0x1D) 0x09 = 0xDC by decide +kernel,
    show eightSectors.foldl (crcStep 0x1D) 0xDC = 0xAD by decide +kernel,
    show eightSectors.foldl (crcStep 0x1D) 0xAD = 0x6D by decide +kernel,
    show eightSectors.foldl (crcStep 0x1D) 0x6D = 0x64 by decide +kernel]
  decide +kernel

/-- The other stored checks of a factory store are the CRC-8 over the default records. -/
theorem test_factory_checks :
    Store.factory.optionsCheck = recordCheck (.optionSet OptionSet.defaults) ∧
      (∀ f : Fin 4, Store.factory.fobsCheck[f] = recordCheck (.fobEntry f FobRecord.defaults)) := by
  decide +kernel

theorem load_factory_window : loadWindow Store.factory = WindowRecord.defaults := by
  unfold loadWindow
  split <;> rfl

theorem load_factory_options : loadOptions Store.factory = OptionSet.defaults := by
  unfold loadOptions
  split <;> rfl

theorem load_factory_fob : ∀ f : Fin 4, loadFob Store.factory f = fl.fobs[f] := by decide +kernel

/-- R26: a power-on with every input open leaves the state after reset. -/
theorem test_powerOn_reset :
    exec (.powerOn { noInputs fl.straps with supplyMillivolt := 13000 }) fl = .next fl := by
  have h : bootBlocks { noInputs fl.straps with supplyMillivolt := 13000 } [] Store.factory =
      { fl with
        link := { fl.link with tx := [] }
        roster := { fl.roster with lastPlaced := none, period := none } } := by
    simp only [bootBlocks, load_factory_window, load_factory_options, load_factory_fob]
    rfl
  show Host.Outcome.next (conclude (start _ fl)) = _
  rw [start, show bootBlocks _ fl.pending (tornStore fl) = _ from h]
  rfl

/-- The table gives its rows no bits, so no word spells a command. -/
theorem test_no_words : decodeTableWord 0 0 = none ∧ fl.withFetchWord 0 0 = fl := by decide

/-- A frame with one flipped check bit is a check error (R3). -/
theorem test_check_error :
    checkPass (telegramFrame ⟨8, 1, [16, 0]⟩) = true ∧
      checkPass { telegramFrame ⟨8, 1, [16, 0]⟩ with sender := 3 } = false := by decide +kernel

/-! ## Witnesses: the machine and the encodings -/

theorem witness_StepRunsFrontCommand :
    { fl with pending := [.rfGapTimeout, .brownOut] }.pending = .rfGapTimeout :: [.brownOut] := rfl

theorem witness_IdleStep :
    fl.pending = [] ∧ reads (got 12 1 []) .discarded = true ∧ (got 12 1 []).pending = [] ∧
      fl.link.rx = [] ∧ operating fl = true ∧ fl.settings.write = none ∧ fl.settings.writes = [] ∧
      (markRecord .optionSet fl).settings.writes ≠ [] := by decide

theorem witness_StrapsSampledAtPowerOn :
    (∃ t, step fl = .next t) ∧
      (∃ t, step { fl with pending := [.powerOn (noInputs { fl.straps with position := 3 })] } = .next t) :=
  ⟨⟨_, rfl⟩, ⟨_, rfl⟩⟩

theorem witness_ConcludeFrame :
    fl.link.tx.length < 6 ∧
      (∃ e ∈ (tx (List.replicate 6 (inTx 8 [] 0 none)) fl).link.tx, e.telegram.kind = 8) ∧
      running fl = true ∧ running { fl with supply := { fl.supply with heldInReset := true } } = false := by
  decide

/-- A locked station that drives back, with an acting STATE report. -/
theorem witness_ReportLawKept :
    ReportLaw (lok (fun k => { k with relock := some 1 }) fl) ∧
      (∃ t, step (lok (fun k => { k with relock := some 1 }) fl) = .next t) :=
  ⟨fun _ => by decide, ⟨_, rfl⟩⟩

theorem witness_LatchLawKept :
    LatchLaw (lat (fun l => { l with observed := .locked, target := .locked, phase := .overtravel }) fl) ∧
      (∃ t, step
        (lat (fun l => { l with observed := .locked, target := .locked, phase := .overtravel }) fl) =
        .next t) :=
  ⟨⟨by decide, by decide, by decide, by decide, by decide⟩, ⟨_, rfl⟩⟩

/-- A positioned window at the top of its travel, driving up at H = 1000. -/
def upRun : State :=
  driving (mv .manual .up .ownSwitch)
    (win (fun w => { w with knowledge := .positioned, pTop := some 4000, p := 4000, heat := 1000 }) fl)

theorem witness_WindowLawKept : WindowLaw upRun ∧ (∃ t, step upRun = .next t) :=
  ⟨{ run := fun r h => ⟨rfl, mv .manual .up .ownSwitch, rfl, by cases h; rfl⟩
     hold := fun h => absurd h (by decide)
     travel := fun _ => ⟨4000, rfl, by decide, by decide, by decide⟩
     heat := by decide }, ⟨_, rfl⟩⟩

/-- Six entries of four kinds, the last a STATE with a replacement waiting. -/
def fullQueue : List TxEntry :=
  [inTx 1 [1] 0 none, inTx 3 [1, 1, 0] 0 none, inTx 3 [3, 1, 1] 0 none, inTx 4 [1, 1, 2] 0 none,
   inTx 4 [2, 5, 3] 0 none, inTx 8 [] 0 (some ⟨8, 0, [0]⟩)]

theorem witness_QueueLawKept :
    QueueLaw (tx fullQueue fl) ∧ (∃ t, step (tx fullQueue fl) = .next t) := by
  refine ⟨⟨by decide, ?_, by decide, ?_, by decide⟩, ⟨_, rfl⟩⟩
  · simp [tx, lnk, fullQueue, inTx, sortedByKind]
  · simp [tx, lnk, fullQueue, inTx]

/-- A fob whose resync candidate stands one ahead of its counter. -/
def candidateFob : State := { fl with fobs := fl.fobs.set 2 (entry 7000 (some 7001)) }

theorem witness_FobCountersKept :
    FobLaw candidateFob ∧ (∃ t, step candidateFob = .next t) ∧ candidateFob.pending = [] ∧
      setsCounters .fobLock = false := by
  refine ⟨fun f k h => ?_, ⟨_, rfl⟩, rfl, rfl⟩
  fin_cases f <;> simp_all [candidateFob, entry, fl, State.reset]
  subst h
  decide

/-- Held in reset, and strapped to an undefined position. -/
def held : State := { fl with supply := { fl.supply with heldInReset := true } }

theorem witness_StationsThatDoNotAct :
    running held = false ∧ configFault (at_ 5 fl) = true ∧
      actsWithInvalidStraps (.doorAjarChange true) = false ∧ running (at_ 5 fl) = true ∧
      (at_ 5 (got 3 1 [1, 1, 0])).power.asleep = false ∧
      (at_ 5 (got 3 1 [1, 1, 0])).link.rx ≠ [] ∧
      (hasWindow fl = true ∧ hasWindow (at_ 4 fl) = false ∧ active fl = true) := by decide

theorem witness_PayloadsReadBack :
    (4 : BitVec 3).toNat ≤ 4 ∧ (4 : BitVec 3).toFin ≠ (3 : Fin 8) ∧ (255 : Byte) ≠ 0 ∧
      (100 : Byte).toNat ≤ 100 ∧ ((0x21 : Byte) ≠ 0 ∧ (0x21 : Byte).toNat % 32 ≠ 0) ∧
      StateContents.initial.percent = 255 ∧ StateContents.initial.source = 255 ∧
      (⟨.busNoack, 3, 1, 3, 0, 15⟩ : FaultRecord).more ≤ 15 ∧
      1 ≤ (1 : Byte).toNat ∧ (4 : Byte).toNat ≤ 4 := by decide

theorem witness_CheckField : (⟨6, 0, List.replicate 15 0xFF⟩ : Telegram).payload.length ≤ 15 := by
  decide

/-! ## Witnesses: the link -/

theorem noAttempt_reset : noAttempt fl := by simp [noAttempt, fl, State.reset]

/-- A frame whose check fails: flipped in its first check bit, and one that ends a run of ten ones. -/
def badFrame : LineFrame := { kind := 8, sender := 1, length := 1, payload := [0], check := 0, slots := 0 }
def cutFrame : LineFrame := { kind := 8, sender := 1, length := 1, payload := [0xFF], check := 0xFF, slots := 0 }

theorem witness_ReceptionRows :
    running fl = true ∧ fl.power.asleep = false ∧ checkPass (telegramFrame ⟨8, 1, [0]⟩) = true ∧
      (checkPass badFrame = false ∧ cutShort badFrame = false) ∧ cutShort cutFrame = true := by
  decide +kernel

/-- Three telegrams are held, and a fourth was taken 230 µs ago, at instant 1000. -/
def threeHeld : State :=
  { lnk (fun l => { l with rx := List.replicate 3 ⟨⟨8, 1, [0]⟩, 0⟩, taken := [⟨0, 770⟩] }) fl with now := 1000 }

/-- A place that was taken at the slot 12 bits before the end, and free at the slot 11 bits before it; none in
a full queue, and none while STUCK. -/
theorem witness_ReceptionRows_place :
    let f := telegramFrame ⟨8, 1, [0]⟩
    hadPlace fl f 12 = true ∧ hadPlace threeHeld f 12 = false ∧ hadPlace threeHeld f 11 = true ∧
      hadPlace (lnk (fun l => { l with rx := List.replicate 4 ⟨⟨8, 1, [0]⟩, 0⟩ }) fl) f 9 = false ∧
      hadPlace (lnk (fun l => { l with state := .stuck }) fl) f 12 = false ∧
      hadPlace (lnk (fun l => { l with own := some ⟨8, 0, [0]⟩ }) fl) f 12 = true ∧
      hadPlace (lnk (fun l => { l with own := some ⟨8, 1, [0]⟩ }) fl) f 12 = false := by decide

/-- R6, R8: a collision at an end bit of an own telegram, read by every receiver, leaves no own slot driven;
the same end bit of a peer's telegram voids the slot that was driven. -/
theorem test_own_telegram_has_no_slot :
    let f := telegramFrame ⟨3, 0, [1]⟩
    (match exec .collision (tx [inTx 3 [1] 0 none] fl) with
      | .next t => (match exec (.abort (.dominantEndBit f 1)) t with
        | .next u => t.link.own == some ⟨3, 0, [1]⟩ && u.link.ackDriven == none && u.link.own == none
        | _ => false)
      | _ => false) = true ∧
      (match exec (.abort (.dominantEndBit f 1)) fl with
        | .next u => u.link.ackDriven == some 0
        | _ => false) = true := by decide +kernel

/-- R1, R21, R22: what a reading of the line outside a telegram counts, and how long the counts run: dominant
from the second of two dominant bits on, a start bit after 10 recessive bits, and 10 ms recessive in STUCK only
where no dominant bit comes between. -/
def quiet (state : LinkState) (level : LineLevel) (dom rec : Nat) : State :=
  tx [] (lnk (fun l =>
    { l with state := state, level := level, dominantFor := dom, recessiveFor := rec, synchronised := true }) fl)
theorem test_line_readings :
    (match exec (.attemptStart 0) (quiet .joined .recessive 0 199) with
      | .next t => t.link.level == .dominant && t.link.dominantFor == 20 && !t.link.insideTelegram
      | _ => false) = true ∧
      (match exec (.attemptStart 0) (quiet .joined .recessive 0 200) with
        | .next t => t.link.insideTelegram && t.link.dominantFor == 0
        | _ => false) = true ∧
      (elapse 980 (quiet .joined .dominant 20 0)).link.dominantFor = 1000 ∧
      (elapse 980 (quiet .joined .recessive 0 20)).link.dominantFor = 0 ∧
      (elapse 20 (quiet .stuck .dominant 1000 0)).link.recessiveFor = 0 ∧
      (match exec (.attemptStart 1) (quiet .stuck .dominant 1000 0) with
        | .next t => t.link.recessiveFor == 20 && t.link.dominantFor == 0 && !t.link.insideTelegram
        | _ => false) = true := by decide +kernel

/-- R1, R21: the end bits of a telegram are no part of an idle line, so a dominant bit less than 10 bits after
the end field begins the dominant count, and one after 10 bits is a start bit. -/
theorem test_end_field_is_not_idle :
    let t : State := lnk (endField { telegramFrame ⟨3, 0, [1]⟩ with slots := 0x80 }) (tx [] fl)
    (match exec (.attemptStart 0) (elapse 180 t) with
      | .next u => u.link.dominantFor == 20 && !u.link.insideTelegram
      | _ => false) = true ∧
      (match exec (.attemptStart 0) (elapse 200 t) with
        | .next u => u.link.insideTelegram && u.link.dominantFor == 0
        | _ => false) = true := by decide +kernel

/-- R22: after a telegram read in STUCK the 10 ms run from the first recessive bit at its end: 4 bits before the
end where slot 7 is dominant, 6 where slot 5 is the last, and, with no slot dominant, 12 and the last bits of the
check field, which ends in one recessive bit (0x41) or in a dominant one (0x40). -/
theorem test_stuck_release_after_telegram :
    let run (check slots : Byte) : Nat :=
      match exec (.plainCheckError ⟨3, 0, 1, [1], check, slots⟩) (quiet .stuck .dominant 1000 0) with
      | .next u => u.link.tailFor
      | _ => 0
    run 0x41 0x80 = 80 ∧ run 0x41 0x20 = 120 ∧ run 0x41 0x3F = 120 ∧ run 0x41 0 = 260 ∧ run 0x40 0 = 240 ∧
      (match exec (.plainCheckError ⟨3, 0, 1, [1], 0x41, 0⟩) (quiet .stuck .dominant 1000 0) with
        | .next u => lineFree (elapse 9740 u).link && !lineFree (elapse 9739 u).link
        | _ => false) = true := by decide +kernel

/-- An entry in its attempt, alone in the queue. -/
def trying (k : BitVec 4) (n : Nat) (w : Option Telegram) : State := tx [inTx k [1] n w] fl

theorem trying_attemptAt (k : BitVec 4) (n : Nat) (w : Option Telegram) :
    attemptAt (trying k n w) [] [] (inTx k [1] n w) := ⟨rfl, rfl, by simp⟩

theorem witness_AttemptRows :
    active fl = true ∧
      (fl.link.tx ≠ [] ∧ fl.link.state ≠ .stuck ∧ fl.link.insideTelegram = false ∧
        (if fl.link.synchronised then 10 else 20) ≤ 20 ∧ configFault fl = false) ∧
      ((quiet .joined .recessive 0 200).link.tx = [] ∧ (0 < 1) ∧
        (quiet .joined .recessive 0 200).link.insideTelegram = false ∧
        (quiet .joined .recessive 0 200).link.level = .recessive ∧ 200 ≤ 200 ∧ 199 < 200 ∧
        (quiet .joined .dominant 20 0).link.level = .dominant ∧ running fl = true) ∧
      ((lnk (fun l => { l with insideTelegram := true }) fl).link.insideTelegram = true ∧ ¬ 20 ≤ 19) ∧
      attemptAt (trying 3 0 none) [] [] (inTx 3 [1] 0 none) ∧ active (trying 3 0 none) = true ∧
      (1 : Byte) &&& ~~~(BitVec.twoPow 8 fl.straps.position.val) = 0 ∧
      (2 : Byte) &&& ~~~(BitVec.twoPow 8 fl.straps.position.val) ≠ 0 :=
  ⟨by decide, by decide, by decide, by decide, trying_attemptAt _ _ _, by decide, by decide, by decide⟩

/-- Station 1 is PRESENT, so it is an expected acker. -/
def withPeer (s : State) : State := peerAt 1 (fun p => { p with presence := .present }) s

/-- R9: a peer that is LOST within the end field was awaited when the acknowledge field ended, and one that was
LOST before that was not; a collided attempt has no acknowledge field. -/
theorem test_ackers_at_acknowledge_end :
    let s : State := withPeer (trying 3 1 none)
    let lost (later : Nat) : State :=
      match exec (.peerLost 1) s with
      | .next t => elapse later t
      | _ => s
    expectedAckers 80 s = 2 ∧ expectedAckers 80 (lost 79) = 2 ∧ expectedAckers 80 (lost 80) = 0 ∧
      expectedAckers 0 (lost 79) = 0 ∧
      (match exec (.attemptEnd 0) (lost 79) with
        | .next t => t.link.tx.map TxEntry.missing
        | _ => []) = [2] := by decide +kernel

/-- What the roster showed before a change less than 80 µs ago, and with no change since. -/
theorem witness_EarlierRoster :
    let s : State := { fl with now := 79, roster := { fl.roster with earlier := [⟨0, 2⟩] } }
    (s.roster.earlier = [] ++ ⟨0, 2⟩ :: [] ∧ s.now < 0 + 80) ∧
      (∀ x ∈ s.roster.earlier, x.upTo + 79 ≤ s.now) := by decide

theorem witness_EntryAfterAttempt :
    (attemptAt (trying 8 0 none) [] [] (inTx 8 [1] 0 none) ∧ active (trying 8 0 none) = true) ∧
      attemptAt (trying 8 0 (some ⟨8, 0, [2]⟩)) [] [] (inTx 8 [1] 0 (some ⟨8, 0, [2]⟩)) ∧
      attemptAt (trying 4 1 (some ⟨4, 0, [2]⟩)) [] [] (inTx 4 [1] 1 (some ⟨4, 0, [2]⟩)) ∧
      (attemptAt (trying 3 2 none) [] [] (inTx 3 [1] 2 none) ∧
        expectedAckers 80 (trying 3 2 none) &&& ~~~(0 : Byte) = 0) ∧
      (attemptAt (withPeer (trying 3 1 none)) [] [] (inTx 3 [1] 1 none) ∧
        expectedAckers 80 (withPeer (trying 3 1 none)) &&& ~~~(0 : Byte) ≠ 0) ∧
      attemptAt (withPeer (trying 3 2 none)) [] [] (inTx 3 [1] 2 none) ∧
      (attemptAt (sea (fun x => { x with awaited := true }) (trying 5 0 none)) [] [] (inTx 5 [1] 0 none) ∧
        (trying 5 0 none).search.awaited = false) ∧
      attemptAt (trying 11 0 none) [] [] (inTx 11 [1] 0 none) :=
  ⟨⟨trying_attemptAt _ _ _, by decide⟩, trying_attemptAt _ _ _, trying_attemptAt _ _ _,
    ⟨trying_attemptAt _ _ _, by decide⟩, ⟨⟨rfl, rfl, by simp⟩, by decide⟩, ⟨rfl, rfl, by simp⟩,
    ⟨⟨rfl, rfl, by simp⟩, by decide⟩, trying_attemptAt _ _ _⟩

/-- An empty queue of the link, five CRASH entries and six. -/
def queue (n : Nat) : Link := (tx (List.replicate n (inTx 1 [1] 0 none)) fl).link

theorem witness_PlacementRules :
    { queue 0 with state := .stuck }.state = .stuck ∧ (queue 0).state ≠ .stuck ∧
      (fl.link.tx = [] ++ fl.link.tx.headD (inTx 8 [] 0 none) :: [] ∧
        takesOver ⟨8, 0, [1]⟩ (fl.link.tx.headD (inTx 8 [] 0 none))) ∧
      (∀ e ∈ (queue 6).tx, ¬ takesOver ⟨8, 0, [1]⟩ e) ∧ 6 ≤ (queue 6).tx.length ∧
      (∀ e ∈ (queue 5).tx, ¬ takesOver ⟨8, 0, [1]⟩ e) ∧ (queue 5).tx.length < 6 ∧
      sortedByKind (queue 5).tx ∧
      ((enqueue ⟨1, 0, [1]⟩ (queue 5)).2 = .taken ∧ (enqueue ⟨1, 0, [1]⟩ (queue 6)).2 = .refused ∧
        (enqueue ⟨1, 0, [1]⟩ { queue 0 with state := .stuck }).2 = .dropped) := by
  refine ⟨rfl, by decide, ⟨rfl, Or.inl (by decide)⟩, ?_, by decide, ?_, by decide, ?_, by decide⟩
  · simp [queue, tx, lnk, inTx, takesOver]
  · simp [queue, tx, lnk, inTx, takesOver]
  · simp [queue, tx, lnk, inTx, sortedByKind]

/-- A held fault record with a more count. -/
def faulty (n : Nat) : State :=
  { fl with faults := { record := some ⟨.busNoack, 3, 1, 3, 0, n⟩, summary := 2 } }

theorem witness_CaptureRule :
    configFault fl = false ∧ fl.faults.record = none ∧
      (fl.power.asleep = false ∧ (pow (fun p => { p with asleep := true }) fl).power.asleep = true) ∧
      (faulty 14).faults.record = some ⟨.busNoack, 3, 1, 3, 0, 14⟩ ∧ (14 < 15) ∧
      ¬ ((FaultKind.lfOpen = .busNoack ∨ FaultKind.lfOpen = .txOverflow) ∧ (0 : Byte) = 9) ∧
      (faulty 15).faults.record = some ⟨.busNoack, 3, 1, 3, 0, 15⟩ ∧
      (enqueue (ownTelegram (faulty 0) 9 [1, 3, 1, 3, 0, 0, 0]) (faulty 0).link).2 = .taken ∧
      (enqueue (ownTelegram (faulty 0) 9 [1, 3, 1, 3, 0, 0, 0]) (queue 6)).2 = .refused ∧
      (enqueue (ownTelegram (faulty 0) 9 [1, 3, 1, 3, 0, 0, 0]) { queue 0 with state := .stuck }).2 =
        .dropped := by decide

theorem witness_LinkStateRows :
    running fl = true ∧ fl.power.asleep = false ∧
      (lnk (fun l => { l with state := .joined }) fl).link.state = .joined ∧ fl.link.state ≠ .stuck ∧
      ((quiet .joined .dominant 1000 0).link.state ≠ .stuck ∧
        (quiet .joined .dominant 1000 0).link.insideTelegram = false ∧
        (quiet .joined .dominant 1000 0).link.level = .dominant ∧
        1000 ≤ (quiet .joined .dominant 1000 0).link.dominantFor ∧
        (quiet .joined .dominant 999 0).link.dominantFor < 1000) ∧
      ((quiet .stuck .recessive 0 10000).link.state = .stuck ∧
        (quiet .stuck .recessive 0 10000).link.insideTelegram = false ∧
        (quiet .stuck .recessive 0 10000).link.level = .recessive ∧
        10000 ≤ (quiet .stuck .recessive 0 10000).link.recessiveFor ∧
        (quiet .stuck .recessive 0 9999).link.recessiveFor < 10000) := by decide

/-! ## Witnesses: power -/

theorem witness_PowerOnValues :
    strapsValid { fl.straps with position := 4 } = true ∧
      strapsValid { fl.straps with position := 5 } = false ∧
      strapsValid { fl.straps with position := 2, body := .threeDoor } = false ∧
      (isDriverStation fl = true ∧ isDriverStation (at_ 1 fl) = false) := by decide

/-- A store that holds a window record with its check, one whose relock time is `n`, and one whose checks
fail. -/
def windowStore (w : WindowRecord) : Store :=
  { Store.factory with window := w, windowCheck := recordCheck (.windowRecord w) }
def relockStore (n : Nat) : Store :=
  let o := { OptionSet.defaults with relock := n }
  { Store.factory with options := o, optionsCheck := recordCheck (.optionSet o) }
def badStore : Store :=
  { Store.factory with optionsCheck := 0x12, fobsCheck := Vector.replicate 4 0x17 }

theorem witness_PowerOnValues_loads :
    (loadOptions (relockStore 30) = (relockStore 30).options ∧
        loadOptions (relockStore 120) = (relockStore 120).options ∧
        loadOptions (relockStore 0) = (relockStore 0).options) ∧
      (loadOptions (relockStore 29) = OptionSet.defaults ∧
        loadOptions (relockStore 121) = OptionSet.defaults) ∧
      badStore.optionsCheck ≠ recordCheck (.optionSet badStore.options) ∧
      (∀ f : Fin 4, badStore.fobsCheck[f] ≠ recordCheck (.fobEntry f badStore.fobs[f])) := by
  decide +kernel

theorem windowStore_check (w : WindowRecord) :
    (windowStore w).windowCheck = recordCheck (.windowRecord (windowStore w).window) := by
  simp only [windowStore]

/-- Each of these records, as `windowStore` holds it, passes its check. -/
theorem witness_PowerOnValues_window :
    windowRecordInRange { WindowRecord.defaults with movingMarker := true } = true ∧
      windowRecordInRange { WindowRecord.defaults with pTop := some 399 } = false ∧
      windowRecordInRange { WindowRecord.defaults with pTop := some 400 } = true ∧
      windowRecordInRange { WindowRecord.defaults with pTop := some 4000 } = true ∧
      windowRecordInRange { WindowRecord.defaults with knowledge := .positioned } = false :=
  by decide +kernel

/-- A latch in a phase, on its way from UNLOCKED to LOCKED. -/
def phase (p : LatchPhase) (s : State) : State :=
  lat (fun l => { l with phase := p, target := .locked, direction := some .forward }) s

/-- A latch that waits for its supply, on its way from UNLOCKED to LOCKED. -/
def waiting (s : State) : State := lat (fun l => { l with supplyWait := some 0 }) (phase .idle s)

theorem witness_SupplyRows :
    (running fl = true ∧ fl.power.asleep = false ∧ fl.supply.discard = false ∧ configFault fl = false) ∧
      { fl.supply with below := true }.below = true ∧ { fl.supply with discard := true }.discard = true ∧
      (configFault (at_ 5 fl) = true ∧ (at_ 5 fl).supply.discard = false) ∧
      (phase .drive fl).latch.phase = .drive ∧ (phase .regulate fl).latch.phase = .regulate ∧
      (phase .overtravel fl).latch.phase = .overtravel ∧
      ((waiting fl).latch.phase = .idle ∧ (waiting fl).latch.supplyWait = some 0 ∧
        needDir (waiting fl).latch.target (waiting fl).latch.observed = some .forward) ∧
      (phase .brake fl).latch.phase = .brake ∧ (phase .pause fl).latch.phase = .pause ∧
      (phase .failed fl).latch.phase = .failed ∧ fl.window.bridge ≠ .drive ∧
      ((driving (mv .manual .up .ownSwitch) fl).window.bridge = .drive ∧ 90 ≤ 90 ∧ 160 ≤ 160 ∧ 89 < 90 ∧
        160 < 161) := by decide

/-- Sleep entry phases, and a sleeping station. -/
def entering (e : EntryPhase) (sent : Bool) : State :=
  tx [] (pow (fun p => { p with entry := e, flagSent := sent, settle := some 0 }) fl)
def sleeper : State := pow (fun p => { p with asleep := true }) fl

theorem witness_SleepRows :
    (active (entering .announcing false) = true ∧ (entering .announcing false).power.entry = .announcing ∧
        (entering .announcing false).power.flagSent = false) ∧
      (entering .announcing true).power.flagSent = true ∧
      (active (entering .settling true) = true ∧ (entering .settling true).power.entry = .settling ∧
        (entering .settling true).link.tx = []) ∧
      ((entering .settling true).link.rx = [] ∧ fl.power.entry = .none) ∧
      (operating sleeper = true ∧ sleeper.power.asleep = true) ∧
      (hasInput .packContact sleeper = true ∧ hasInput .packContact (at_ 1 sleeper) = false) ∧
      (hasInput .childSwitch (at_ 2 sleeper) = true ∧ hasInput .childSwitch sleeper = false) ∧
      hasInput .ownWindowSwitch sleeper = true := by decide

/-- The conditions of R178 hold at a station with an empty transmit queue, and while it settles; they do not
in an open deadlock window. -/
theorem witness_SleepRows_restful :
    restful (tx [] fl) ∧ restful (entering .settling true) ∧
      ¬ restful (lok (fun k => { k with deadlockWindow := some 1 }) (tx [] fl)) := by
  refine ⟨?_, ?_, fun h => absurd h.2.2.2.2.2.2.2.2.2.2.2.1 (by decide)⟩
  · unfold restful
    constructorm* _ ∧ _ <;> decide
  · unfold restful
    constructorm* _ ∧ _ <;> decide

/-- R179: in SETTLING a peer's STATE with the sleeping flag restarts the settle timer, and a VEHICLE returns the
phase to ANNOUNCING; neither abandons the entry. -/
theorem test_telegram_in_sleep_entry :
    (match exec (.telegramReceived (telegramFrame ⟨8, 1, [2, 0, 16, 255, 255, 0, 0, 0, 0]⟩))
        (pow (fun p => { p with settle := some 1000 }) (entering .settling true)) with
      | .next t => t.power.entry == .settling && t.power.settle == some 0
      | _ => false) = true ∧
      (match exec (.telegramReceived (telegramFrame ⟨7, 6, [0, 0]⟩)) (entering .settling true) with
        | .next t => t.power.entry == .announcing && t.power.settle == none
        | _ => false) = true := by decide +kernel

/-- R113: a 100 ms that a run filled as it ended adds its 3 after the end as well. -/
theorem test_heat_after_run :
    (match exec .thermalHeatTick (win (fun w => { w with heat := 364, onTime := 100000 }) fl) with
      | .next t => t.window.heat == 367 && t.window.onTime == 0
      | _ => false) = true := by decide +kernel

/-! ## Witnesses: taken telegrams -/

theorem witness_EvidenceRows :
    reads (got 12 1 []) .discarded = true ∧ reads (got 9 1 [3, 0, 0, 0, 15, 0, 9]) (.fault 1) = true ∧
      reads (got 11 4 [4, 4]) (.serviceack 4) = true ∧
      (withPeer fl).roster.peers[1].presence = .present ∧ fl.roster.peers[1].presence ≠ .present := by
  decide

/-- The first STATE of a station, and one with the JOINING marker down and the door open. -/
def firstState : StateContents := StateContents.initial
def doorState : StateContents := { firstState with joining := false, doorOpen := true }

theorem witness_StateTaken :
    reads (got 8 1 (encodeState firstState)) (.state 1 firstState) = true ∧
      (firstState.joining = true ∧ fl.roster.peers[1].lastState = none) ∧ doorState.joining = false ∧
      (doorState.doorOpen = true ∧ fl.roster.peers[0].lastState = none) ∧
      firstState.doorOpen = false := by decide +kernel

theorem witness_VehicleTaken :
    reads (got 7 6 [14, 2]) (.vehicle 14 .on) = true ∧ reads (got 7 6 [255, 0]) (.vehicle 255 .off) = true ∧
      fl.vehicle.offSeen = true ∧ (14 : Byte).toNat < 15 ∧ fl.vehicle.ignition = .off ∧
      fl.vehicle.speed = none ∧ { fl.vehicle with ignition := .crank }.ignition = .crank ∧
      (driving (mv .manual .up .ownSwitch) fl).window.move = some (mv .manual .up .ownSwitch) ∧
      (driving (mv .global .up .fob) fl).window.move = some (mv .global .up .fob) ∧
      { fl.vehicle with offSeen := false }.offSeen = false := by decide

/-- The duplicate filter of peer `n` holds a LOCKREQ sequence. -/
def filtered (n : Fin 8) (q : Byte) (s : State) : State :=
  peerAt n (fun p => { p with lockreqFilter := some ⟨q, 1⟩, windowreqFilter := some ⟨q, 1⟩ }) s

theorem witness_LockreqRows :
    reads (got 3 1 [1, 1, 255]) (.central 1 .lock .insideButton 255 0) = true ∧
      reads (got 3 1 [2, 1, 0]) (.central 1 .deadlock .insideButton 0 0) = true ∧
      reads (got 3 1 [2, 3, 0, 33]) (.central 1 .deadlock .keyless 0 33) = true ∧
      reads (got 3 4 [3, 2, 0]) (.central 4 .unlock .keyCylinder 0 0) = true ∧
      reads (got 3 1 [4, 4, 9]) (.childRequest 1 true 9) = true ∧
      reads (at_ 2 (got 3 1 [5, 4, 9])) (.childRequest 1 false 9) = true ∧
      (filtered 1 9 fl).roster.peers[1].lockreqFilter = some ⟨9, 1⟩ ∧
      fl.roster.peers[1].lockreqFilter = none ∧ (fl.straps.position ≠ 2 ∧ fl.straps.position ≠ 3) ∧
      (at_ 3 fl).straps.position = 3 := by decide

theorem witness_WindowreqRows :
    reads (got 4 1 [1, 1, 9]) (.windowreq 1 1 .manualUp 9) = true ∧
      reads (got 4 1 [31, 5, 9]) (.windowreq 1 31 .stop 9) = true ∧
      reads (got 4 1 [2, 3, 9]) (.windowreq 1 2 .autoUp 9) = true ∧
      (1 : Byte).getLsbD fl.straps.position.val = true ∧
      (2 : Byte).getLsbD fl.straps.position.val = false ∧ fl.straps.position ≠ 4 ∧
      (filtered 1 9 fl).roster.peers[1].windowreqFilter = some ⟨9, 1⟩ ∧
      ((driving (mv .manual .up .pack) fl).window.move = some (mv .manual .up .pack) ∧
        (driving (mv .manual .up .pack) fl).window.spentHold = none) ∧
      ((win (fun w => { w with spentHold := some ⟨.up, 1⟩ }) fl).window.spentHold = some ⟨.up, 1⟩ ∧
        (win (fun w => { w with spentHold := some ⟨.up, 1⟩ }) fl).window.move = none) ∧
      (driving (mv .reversal .down .pinch) fl).window.move = some (mv .reversal .down .pinch) := by decide

theorem witness_PinchCrashSearchRows :
    reads (got 2 1 [0, 50]) (.pinch 1) = true ∧ fl.window.move = none ∧
      ((driving (mv .global .up .fob) fl).window.move = some (mv .global .up .fob) ∧
        hasWindow (driving (mv .global .up .fob) fl) = true) ∧
      reads (got 1 4 [255]) (.crash 4 255) = true ∧ (4 : Fin 8).val < 5 ∧
      fl.crash.lastNumber[4] ≠ 255 ∧ (fl.crash.lastNumber.set 4 255)[4] = 255 ∧
      reads (got 5 1 [33, 1, 63]) (.search 1 33 63) = true ∧ fl.search.phase = .idle ∧
      (sea (fun x => { x with phase := .pending }) fl).search.phase = .pending ∧
      (sea (fun x => { x with phase := .collecting }) fl).search.phase = .collecting ∧
      ({ fl with now := 17999 }.now - 0 < 18000 ∧ 18000 ≤ { fl with now := 18000 }.now - 0 ∧
        { fl with now := 119999 }.now - 0 < 120000 ∧ 120000 ≤ { fl with now := 120000 }.now - 0) := by
  decide +kernel

/-- The vehicle stands with the ignition on, as a SERVICE needs it. -/
def serviced (s : State) : State :=
  { s with vehicle := { s.vehicle with ignition := .on, speed := some 0 } }

theorem witness_ServiceRows :
    reads (got 10 7 [3, 4]) (.service .clearfault 4 []) = true ∧ (4 : Byte).toNat ≠ fl.straps.position.val ∧
      reads (got 10 7 [1, 0, 4, 0, 0, 0, 0, 0, 0, 0]) (.service .enrol 0 [4, 0, 0, 0, 0, 0, 0, 0]) = true ∧
      badArgument .enrol [4, 0, 0, 0, 0, 0, 0, 0] fl = true ∧
      reads (got 10 7 [1, 0, 3, 0, 0, 0, 0, 0, 0, 0]) (.service .enrol 0 [3, 0, 0, 0, 0, 0, 0, 0]) = true ∧
      badArgument .enrol [3, 0, 0, 0, 0, 0, 0, 0] fl = false ∧ fl.vehicle.ignition ≠ .on ∧
      reads (got 10 7 [2, 0, 3, 1, 30, 80, 224, 31, 0, 0, 0, 0])
        (.service .option 0 [3, 1, 30, 80, 224, 31, 0, 0, 0, 0]) = true ∧
      (badArgument .option [3, 1, 30, 80, 224, 31, 0, 0, 0, 0] fl = false ∧
        badArgument .option [0, 0, 0, 20, 0, 0, 0, 0, 224, 31] fl = false ∧
        badArgument .option [4, 1, 30, 80, 0, 0, 0, 0, 0, 0] fl = true ∧
        badArgument .option [3, 2, 30, 80, 0, 0, 0, 0, 0, 0] fl = true ∧
        badArgument .option [3, 1, 29, 80, 0, 0, 0, 0, 0, 0] fl = true ∧
        badArgument .option [3, 1, 30, 81, 0, 0, 0, 0, 0, 0] fl = true ∧
        badArgument .option [3, 1, 30, 80, 0, 0, 0, 0, 223, 0] fl = true ∧
        badArgument .option [3, 1, 30, 80, 0, 0, 0, 0, 0, 32] fl = true) ∧
      badArgument .forgetWindow [] (at_ 4 fl) = true ∧
      reads (got 10 7 [4, 0]) (.service .forgetWindow 0 []) = true ∧
      badArgument .forgetWindow [] fl = false ∧
      ((serviced fl).settings.awaited = none ∧ (serviced fl).vehicle.ignition = .on ∧
        (serviced fl).vehicle.speed = some 0 ∧ (serviced fl).latch.target = .unlocked ∧
        (serviced fl).window.move = none ∧ (serviced fl).window.bridge = .off) := by decide +kernel

/-- Fob 0 is enrolled with key 0 at counter 7000. -/
def enrolled (s : State) : State := { s with fobs := s.fobs.set 0 (entry 7000 none) }

/-- A LOCK report of fob 0 with its code under key 0, at counter `c`. -/
def report (c : BitVec 24) : FobReport :=
  { search := 0, fob := 0, command := .lock, fobByte := 2, counter := c, readings := []
    tag := fobCode 0 { search := 0, fob := 0, command := .lock, fobByte := 2, counter := c, readings := []
                       tag := 0 } }

/-- The payload of such a report. -/
def reportPayload (r : FobReport) : List Byte :=
  [r.search, r.fobByte, r.counter.extractLsb' 16 8, r.counter.extractLsb' 8 8, r.counter.extractLsb' 0 8,
   r.tag.extractLsb' 24 8, r.tag.extractLsb' 16 8, r.tag.extractLsb' 8 8, r.tag.extractLsb' 0 8]

theorem witness_FobRows :
    reads (got 6 4 (reportPayload (report 7032))) (.fobReport 4 (report 7032)) = true ∧
      (got 6 4 (reportPayload (report 7032))).fobs[0].enrolled = false ∧
      ((enrolled fl).fobs[0].enrolled = true ∧
        (report 7032).tag = fobCode (enrolled fl).fobs[0].key (report 7032)) ∧
      counterWindow (report 7032) (enrolled fl).fobs[0] = .accepted ∧
      counterWindow (report 7033) (enrolled fl).fobs[0] = .candidate := by decide +kernel

/-- The borders of the counter window: 32 and 33, 4096 and 4097, 1 and 0, and the candidate's successors. -/
theorem witness_FobCounterWindow :
    counterWindow (press 7032) (entry 7000 none) = .accepted ∧
      counterWindow (press 7033) (entry 7000 none) = .candidate ∧
      counterWindow (press 11096) (entry 7000 none) = .candidate ∧
      counterWindow (press 11097) (entry 7000 none) = .rejected ∧
      counterWindow (press 7001) (entry 7000 none) = .accepted ∧
      counterWindow (press 7000) (entry 7000 none) = .rejected ∧
      counterWindow (press 7000) { entry 7000 none with lastTag := some 1 } = .duplicate ∧
      counterWindow (press 7073) (entry 7000 (some 7071)) = .accepted ∧
      counterWindow (press 7074) (entry 7000 (some 7071)) = .candidate := by decide

/-- The driver station is PRESENT and reports a locked latch. -/
def lockedDriver : State :=
  peerAt 0 (fun p =>
    { p with presence := .present, lastState := some { firstState with target := .locked } }) fl

theorem witness_ReportDispatch :
    (report 1).command = .lock ∧ (fl.link.state ≠ .isolated ∧ fl.link.state ≠ .stuck) ∧
      (lnk (fun l => { l with state := .isolated }) fl).link.state = .isolated ∧
      fl.lock.deadlockWindow = none ∧
      (lok (fun k => { k with deadlockWindow := some 1 }) fl).lock.deadlockWindow ≠ none ∧
      heldBack (at_ 1 lockedDriver) = true ∧ heldBack fl = false ∧ (at_ 4 fl).straps.position = 4 ∧
      (sea (fun x => { x with phase := .inFlight }) fl).search.phase = .inFlight ∧
      (report 1).search = fl.search.number ∧ fl.search.phase = .idle ∧
      (hasWindow (driving (mv .global .down .fob) fl) = true ∧
        (driving (mv .global .down .fob) fl).window.move = some (mv .global .down .fob) ∧
        fl.window.move = none) := by decide +kernel

/-- A locked station whose window is learned and stands at its middle. -/
def closed : State :=
  { lat (fun l => { l with target := .locked, observed := .locked })
      (win (fun w => { w with knowledge := .positioned, pTop := some 1000, p := 500 }) fl) with
    pinch := { fl.pinch with profile := Vector.replicate 32 ⟨300, 1⟩ } }

theorem witness_GlobalFrame :
    hasWindow closed = true ∧ closed.window.globalSpent = none ∧
      (win (fun w => { w with globalSpent := some ⟨.up, 1⟩ }) closed).window.globalSpent = some ⟨.up, 1⟩ ∧
      (closed.pins.doorOpen = false ∧ closed.latch.target ≠ .unlocked ∧ closed.crash.hold = false ∧
        closed.window.reversals < 2 ∧ closed.window.heat < 1000) ∧
      (fl.latch.target = .unlocked ∧ fl.pins.doorOpen = false) ∧
      (driving (mv .global .up .fob) closed).window.move = some (mv .global .up .fob) ∧
      closed.window.move = none ∧ permitted ⟨.global, .up, .fob⟩ closed = true ∧
      alreadyThere .up closed.window = false ∧
      alreadyThere .up { closed.window with p := 984 } = true ∧
      alreadyThere .up { closed.window with p := 983 } = false ∧
      (alreadyThere .down { closed.window with p := 16, knowledge := .bottomKnown } = true ∧
        alreadyThere .down { closed.window with p := 17 } = false ∧
        alreadyThere .down { closed.window with p := 0, knowledge := .unpositioned } = false) ∧
      hasWindow (at_ 4 fl) = false ∧
      permitted ⟨.global, .up, .fob⟩ fl = false ∧
      permitted ⟨.global, .up, .fob⟩ (win (fun w => { w with heat := 999 }) closed) = true := by
  decide +kernel

/-- An RF-attached station in a receiver state. -/
def rfs (p : RfPhase) (b : List Byte) : State :=
  { fl with straps := { fl.straps with rfAttached := true }, rf := { phase := p, bytes := b, gap := 0 } }

theorem witness_RfRows :
    (operating (rfs .idle []) = true ∧ (rfs .idle []).straps.rfAttached = true) ∧
      (rfs .quiet []).rf.phase = .quiet ∧ (rfs .assembling [0x5A]).rf.phase = .assembling ∧
      (checkFrame [0x5A, 32] = .dropped ∧ checkFrame [0x5A, 0] = .goesOn ∧
        checkFrame [0x5A, 0x9F] = .goesOn ∧ checkFrame [0x5A, 0xA1] = .dropped) ∧
      (checkFrame [0x5A, 0, 0xC5] = .goesOn ∧ checkFrame [0x5A, 0, 0xC6] = .dropped ∧
        checkFrame [0x5A, 0, 0xD5] = .dropped ∧ checkFrame [0x5A, 33, 6] = .goesOn ∧
        checkFrame [0x5A, 33, 1] = .dropped) ∧
      (checkFrame (0x5A :: 33 :: 6 :: List.replicate 12 0) = .goesOn ∧
        checkFrame (0x5A :: 33 :: 6 :: List.replicate 13 0) = .complete ∧
        checkFrame (0x5A :: 0 :: 1 :: List.replicate 6 0) = .goesOn) ∧
      checkFrame (0x5A :: reportPayload (report 7)) = .complete ∧
      decodeFobReport (reportPayload (report 7)) = some (report 7) := by decide +kernel

theorem witness_RosterTimerRows :
    active fl = true ∧ (withPeer fl).roster.peers[1].presence = .present ∧ fl.roster.period ≠ none ∧
      { fl.vehicle with hold := some 0, afterRun := some 0 }.hold ≠ none ∧
      { fl.vehicle with hold := some 0, afterRun := some 0 }.afterRun ≠ none ∧
      (filtered 4 0 fl).roster.peers[4].lockreqFilter ≠ none ∧
      (filtered 4 0 fl).roster.peers[4].windowreqFilter ≠ none ∧
      ((at_ 4 fl).straps.position = 4 ∧ fl.straps.position ≠ 4 ∧ fl.window.knowledge ≠ .positioned) := by
  decide

/-! ## Witnesses: the latch -/

/-- A latch of the given phase, target, observed position and direction of the motor. -/
def la (p : LatchPhase) (t : LatchTarget) (o : LatchPos) (d : LatchDir) : Latch :=
  { fl.latch with phase := p, target := t, observed := o, direction := some d }

/-- The direction that `t` needs at the latch is the reverse of the record's, and the same. -/
def reverses (t : LatchTarget) (l : Latch) : Bool :=
  match needDir t l.observed, l.direction with
  | some d, some r => d != r
  | _, _ => false

theorem witness_LatchWrites :
    ((LatchTarget.locked ≠ .unlocked) ∧ (LatchTarget.deadlocked ≠ .unlocked)) ∧
      { fl.latch with crashPursuit := true }.crashPursuit = true ∧
      (fl.latch.phase = .idle ∧ fl.latch.supplyWait = none ∧ fl.latch.target ≠ .locked ∧
        targetPos fl.latch.target = fl.latch.observed) ∧
      ((waiting fl).latch.supplyWait = some 0 ∧ (waiting fl).latch.target = .locked ∧
        reverses .unlocked { (waiting fl).latch with observed := .unknown } = true ∧
        targetPos .unlocked = (waiting fl).latch.observed ∧
        reverses .deadlocked (waiting fl).latch = false) ∧
      (reverses .unlocked (la .drive .locked .unknown .forward) = true ∧
        reverses .deadlocked (la .drive .locked .unknown .forward) = false ∧
        reverses .locked (la .regulate .unlocked .unknown .back) = true) ∧
      (reverses .unlocked (la .overtravel .locked .locked .forward) = true ∧
        reverses .deadlocked (la .overtravel .locked .locked .forward) = false ∧
        targetPos .locked = (la .overtravel .unlocked .locked .forward).observed) ∧
      (la .brake .locked .unknown .forward).target ≠ .unlocked ∧
      (la .pause .locked .unknown .forward).target ≠ .unlocked ∧
      (la .failed .locked .unknown .forward).phase = .failed := by decide

theorem witness_CrashUnlockTable :
    fl.latch.crashPursuit = false ∧
      (fl.latch.phase = .idle ∧ fl.latch.supplyWait = none ∧ fl.latch.observed = .unlocked) ∧
      ((waiting fl).latch.phase = .idle ∧ (waiting fl).latch.supplyWait ≠ none) ∧
      (la .idle .locked .locked .forward).observed ≠ .unlocked ∧
      (la .drive .unlocked .locked .back).direction = some .back ∧
      (la .regulate .locked .unknown .forward).direction = some .forward ∧
      ((la .overtravel .unlocked .unlocked .back).target = .unlocked ∧
        (la .overtravel .unlocked .unlocked .back).direction = some .back) ∧
      (la .overtravel .locked .locked .back).target = .locked ∧
      (la .brake .locked .unknown .back).phase = .brake := by decide

theorem witness_LatchSwitchRow :
    (active fl = true ∧ fl.pins.wakeDebounce = none) ∧
      ((la .drive .locked .unknown .forward).observed ≠ .locked ∧ targetPos .locked = .locked) ∧
      (la .drive .locked .unlocked .forward).observed ≠ .deadlocked ∧
      (la .regulate .locked .deadlocked .back).observed ≠ .unlocked ∧
      ((la .drive .deadlocked .unlocked .forward).target ≠ .locked ∧
        LatchPos.locked ≠ targetPos .deadlocked) ∧
      (la .overtravel .locked .locked .forward).observed ≠ .unknown ∧
      (la .brake .locked .unknown .forward).phase = .brake ∧
      (la .pause .locked .unknown .forward).observed ≠ .locked ∧
      ((waiting fl).latch.phase = .idle ∧ (waiting fl).latch.supplyWait = some 0 ∧
        (waiting fl).latch.observed ≠ .locked) ∧
      ((la .failed .locked .unknown .forward).observed ≠ .unlocked ∧
        (la .idle .locked .locked .forward).supplyWait = none) := by decide

/-- The end of a brake of R49: the drive toward LOCKED has passed it, `n` µs of pulse used at attempt `k`. -/
def passedBrake (n : Nat) (o : LatchPos) (k : Nat := 1) : State :=
  lat (fun _ => { la .brake .locked o .forward with
    brakeForPassed := true, pulseElapsed := n, phaseTimer := 50000, attempt := k }) fl

/-- A latch in a phase at attempt `n`. -/
def attempt (p : LatchPhase) (n : Nat) : State :=
  lat (fun _ => { la p .locked .unknown .forward with attempt := n, openLoad := some 0 }) fl

theorem witness_LatchTimerRows :
    active fl = true ∧ (la .overtravel .locked .locked .forward).resume = .drive ∧
      ((passedBrake 0 .locked).latch.observed = targetPos .locked ∧
        (passedBrake 0 .locked).latch.brakeForPassed = true ∧ active (passedBrake 0 .locked) = true) ∧
      ((passedBrake 299999 .deadlocked).latch.observed ≠ targetPos .locked ∧
        min 300000 (299999 + (50000 - (passedBrake 299999 .deadlocked).latch.phaseTimer)) < 300000) ∧
      ((passedBrake 300000 .deadlocked).latch.observed ≠ targetPos .locked ∧
        min 300000 (300000 + (50000 - (passedBrake 300000 .deadlocked).latch.phaseTimer)) = 300000 ∧
        (passedBrake 300000 .deadlocked).latch.resume = .drive ∧
        (passedBrake 300000 .deadlocked).latch.attempt ≤ 1 ∧
        1 < (passedBrake 300000 .deadlocked 2).latch.attempt) ∧
      (phase .brake fl).latch.brakeForPassed = false ∧
      ((lat (fun l => { l with resume := .regulate }) (phase .overtravel fl)).latch.phase = .overtravel ∧
        (lat (fun l => { l with resume := .regulate }) (phase .overtravel fl)).latch.resume = .regulate) ∧
      ((attempt .drive 1).latch.attempt ≤ 1 ∧ (attempt .drive 1).latch.phase = .drive) ∧
      1 < (attempt .drive 2).latch.attempt ∧
      (needDir .locked .locked = none ∧ needDir .locked .unknown = some .forward) ∧
      (waiting fl).latch.supplyWait = some 0 ∧ (attempt .regulate 1).latch.phase = .regulate ∧
      ((attempt .regulate 1).latch.chopOn = true ∧ (attempt .drive 1).latch.openLoad ≠ none) ∧
      fl.settings.options.regulate = true ∧
      { fl.settings.options with regulate := false }.regulate = false ∧ fl.straps.position ≠ 4 ∧
      (at_ 4 fl).straps.position = 4 := by decide

theorem witness_BrakeEndStartsPursuit :
    active (phase .brake fl) = true ∧ (phase .brake fl).latch.phase = .brake ∧
      (phase .brake fl).latch.brakeForPassed = false := by decide

/-! ## Witnesses: locking, child safety and crash -/

/-- In crash hold. -/
def crashed (s : State) : State := { s with crash := { s.crash with hold := true } }

/-- The own door open, and the search's list with a fob inside. -/
def opened (s : State) : State := pin (fun p => { p with doorOpen := true }) s
def keyIn (s : State) : State :=
  sea (fun x => { x with number := 33, verdicts := x.verdicts.set 3 (some .inside) }) s

/-- Every other station PRESENT with its door closed. -/
def allClosed (s : State) : State :=
  let f (p : Peer) : Peer := { p with presence := .present, lastState := some firstState }
  peerAt 1 f (peerAt 2 f (peerAt 3 f (peerAt 4 f s)))

theorem witness_CentralLockAndDeadlock :
    (crashed fl).crash.hold = true ∧ fl.crash.hold = false ∧
      ((keyIn fl).search.number = 33 ∧ (keyIn fl).search.verdicts[3] = some .inside) ∧
      (opened fl).pins.doorOpen = true ∧ fl.pins.doorOpen = false ∧ fl.search.verdicts[3] = none ∧
      (la .idle .deadlocked .locked .forward).target = .deadlocked ∧
      (fl.latch.target ≠ .deadlocked ∧ fl.latch.observed ≠ .deadlocked) ∧
      (fl.roster.peers[4].presence = .neverHeard ∧ expectedStation fl.straps.body 4 = true) ∧
      (∀ k : Fin 8, k.val < 5 → k ≠ fl.straps.position →
        (allClosed fl).roster.peers[k].presence = .present ∧
          (allClosed fl).roster.peers[k].lastState = some firstState) ∧
      firstState.doorOpen = false := by decide

theorem witness_CentralButtons :
    (active fl = true ∧ isDriverStation fl = true ∧ fl.pins.wakeDebounce = none) ∧
      (fl.pins.centralLock = false ∧ fl.pins.doorOpen = false) ∧
      ((opened fl).pins.centralLock = false ∧ (opened fl).pins.doorOpen = true) ∧
      fl.pins.centralUnlock = false ∧
      (pin (fun p => { p with centralLock := true, centralUnlock := true }) fl).pins.centralLock = true := by
  decide

theorem witness_OwnRequests :
    (active fl = true ∧ isDriverStation fl = true ∧ fl.pins.wakeDebounce = none) ∧
      (fl.pins.keyLock = false ∧ fl.lock.secondTurn = none) ∧
      (lok (fun k => { k with secondTurn := some 1 }) fl).lock.secondTurn ≠ none ∧
      fl.pins.keyUnlock = false ∧ (place (ownTelegram fl 3 [1, 1, 0]) fl).2 = .taken ∧
      (place (ownTelegram fl 3 [1, 1, 0]) (lnk (fun l => { l with state := .stuck }) fl)).2 ≠ .taken ∧
      (isDriverStation (at_ 3 fl) = false ∧
        (place (ownTelegram (at_ 3 fl) 3 [3, 3, 0, 33]) (at_ 3 fl)).2 = .taken) := by decide

theorem witness_DoorAndHandleRows :
    (active fl = true ∧ fl.pins.wakeDebounce = none) ∧ fl.pins.doorOpen = false ∧
      (la .idle .deadlocked .unlocked .forward).target = .deadlocked ∧ fl.straps.position = 0 ∧
      ((opened fl).pins.doorOpen = true ∧ (opened fl).lock.followUp = false) ∧
      (lok (fun k => { k with followUp := true, action := some .lock }) (opened fl)).lock.action =
        some .lock ∧
      ((opened fl).crash.hold = false ∧ (opened fl).latch.target ≠ .deadlocked) ∧
      (fl.pins.handlePulled = false ∧ (la .idle .locked .locked .forward).target = .locked) ∧
      { fl.child with position := true }.position = true ∧ (at_ 3 fl).straps.position = 3 := by decide

/-- Armed for the drive-away lock at 15 km/h with every other door closed. -/
def driveAway (v : Nat) : State :=
  lok (fun k => { k with driveAwayArmed := true })
    { allClosed fl with vehicle := { fl.vehicle with speed := some v } }

theorem witness_LockTimerRows :
    active fl = true ∧
      (lok (fun k => { k with deadlockWindow := some 0, relock := some 0, secondTurn := some 0 })
        fl).lock.relock ≠ none ∧
      ({ pulse := some 0 } : Release).pulse ≠ none ∧
      ((driveAway 15).lock.driveAwayArmed = true ∧ (driveAway 15).vehicle.speed = some 15 ∧
        (driveAway 15).pins.doorOpen = false) ∧
      (∀ k : Fin 8, k.val < 5 → k ≠ (driveAway 15).straps.position →
        (driveAway 15).roster.peers[k].presence ≠ .neverHeard ∧
          (driveAway 15).roster.peers[k].lastState = some firstState) ∧
      (driveAway 14).vehicle.speed = some 14 ∧ fl.release.pulse = none ∧
      (fl.vehicle.speed = none ∧ fl.vehicle.ignition = .off) ∧
      ({ fl.vehicle with speed := some 2 }.speed = some 2 ∧
        { fl.vehicle with speed := some 3 }.speed = some 3) := by decide

/-- A rear station with child safety ON or OFF, and a pulse of its actuator. -/
def child (on : Bool) (p : Option ChildPulse) (r : Option Bool) : State :=
  { at_ 2 fl with child := { position := on, pulse := p, request := r } }

theorem witness_ChildRows :
    (active (at_ 2 fl) = true ∧ (at_ 2 fl).pins.wakeDebounce = none ∧ (at_ 2 fl).straps.position = 2) ∧
      (child true none none).child.position = true ∧ (child false none none).child.position = false ∧
      (driving (mv .auto .up .ownSwitch) (at_ 2 fl)).window.move = some (mv .auto .up .ownSwitch) ∧
      (at_ 2 fl).window.move = none ∧
      ((child true (some ⟨true, 200000⟩) (some false)).child.pulse = some ⟨true, 200000⟩ ∧
        (child false (some ⟨true, 0⟩) none).child.pulse = some ⟨true, 0⟩) ∧
      (active fl = true ∧ isDriverStation fl = true ∧ fl.pins.childButton = false ∧
        fl.straps.body = .fiveDoor) ∧
      { fl.straps with body := .threeDoor }.body = .threeDoor ∧
      (allClosed fl).roster.peers[2].lastState = some firstState ∧ firstState.childOn = false ∧
      fl.roster.peers[2].presence = .neverHeard ∧ fl.roster.peers[3].presence = .neverHeard := by decide

/-- The crash line in a state. -/
def line (c : CrashLine) : State := { fl with crash := { fl.crash with line := c, ownNumber := 255 } }

theorem witness_CrashRows :
    (operating fl = true ∧ fl.crash.line = .inactive ∧ fl.power.asleep = false) ∧
      (operating sleeper = true ∧ sleeper.crash.line = .inactive ∧ sleeper.power.asleep = true) ∧
      (active (line (.active 2000)) = true ∧ (line (.active 2000)).crash.line = .active 2000 ∧
        (line (.active 2000)).crash.ownNumber = 255 ∧ (line (.active 2000)).crash.due = false) ∧
      ((line (.active 1999)).crash.line = .active 1999 ∧
        { fl.crash with due := true }.due = true ∧ fl.crash.due = false) ∧
      fl.window.move = none ∧ (driving (mv .manual .up .ownSwitch) fl).window.move ≠ none := by decide

/-- R89: a line that was active to the end of its 2 ms while the station slept, and is inactive again, brings
its event about when the station is AWAKE. -/
theorem test_crash_in_sleep :
    (match exec .crashLineInactive (pow (fun p => { p with asleep := true }) (line (.active 2000))) with
      | .next t => t.crash.due && t.crash.line == .inactive && !t.crash.hold &&
          (match exec .crashLineQualified (pow (fun p => { p with asleep := false }) t) with
            | .next u => u.crash.hold && !u.crash.due && u.crash.ownNumber == 1 && u.crash.line == .inactive
            | _ => false)
      | _ => false) = true := by decide +kernel

/-! ## Witnesses: the window -/

/-- A window at position `p` of a travel of 1000, driving in a direction. -/
def along (k : Knowledge) (t : Option Nat) (p : Nat) (d : Dir) : State :=
  driving (mv .manual d .ownSwitch) (win (fun w => { w with knowledge := k, pTop := t, p := p }) fl)

/-- The same window with a stall timer. -/
def stallAt (n : Nat) (s : State) : State :=
  win (fun w => { w with run := w.run.map fun r => { r with stall := n } }) s

/-- The window's bridge in a state, with or without its coast. -/
def bridged (b : Bridge) (c : Option Nat) (m : Option Move) : State :=
  win (fun w => { w with bridge := b, coast := c, move := m }) fl

/-- R96: an edge counts at 50 ms of the coast, and is an unexpected one after it, though the coast ends within
the operand; a brake ends after 20 ms, and its coast 50 ms later, as does the coast of a run that stalls within
the operand. -/
theorem test_hall_after_coast :
    let at10 (s : State) : State := win (fun w => { w with p := 10, lastDir := .up }) s
    let after (n : Nat) (s : State) : Nat × Nat :=
      match exec (.hallStep n) (at10 s) with
      | .next t => (t.window.p, t.window.unexpected)
      | _ => (0, 0)
    after 50000 (bridged .off (some 0) none) = (11, 0) ∧
      after 50001 (bridged .off (some 0) none) = (10, 1) ∧
      after 60000 (bridged .off (some 0) none) = (10, 1) ∧
      after 25000 (bridged .brake none none) = (11, 0) ∧
      after 70001 (bridged .brake none none) = (10, 1) ∧
      after 60000 (stallAt 149999 (along .positioned (some 1000) 0 .up)) = (10, 1) := by decide +kernel

/-- The timer of the window that expires first, where the others are tried one by one. -/
theorem firstToExpire_of (s : State) (x : WindowTimer) (t : Nat) (h : leftFor s x = some t)
    (hy : ∀ y ∈ inTurn, ∀ u ∈ leftFor s y, t < u ∨ (t = u ∧ inTurn.idxOf x ≤ inTurn.idxOf y)) :
    firstToExpire s x t :=
  ⟨h, fun y u hu => hy y (by cases y <;> decide) u hu⟩

theorem witness_WindowTimers :
    firstToExpire (bridged .off (some 0) none) .coast 50000 ∧
      leftFor (bridged .off (some 50000) none) .coast = some 0 ∧
      leftFor (bridged .off none (some { mv .manual .up .pack with lease := some 0 })) .lease = some 0 ∧
      (∀ x t, leftFor (bridged .brake none none) x = some t → 20000 ≤ t) :=
  ⟨firstToExpire_of _ _ _ rfl (by decide), by decide, by decide,
   fun x t h => by
    have hx : ∀ x ∈ inTurn, ∀ u ∈ leftFor (bridged .brake none none) x, 20000 ≤ u := by decide
    exact hx x (by cases x <;> decide) t h⟩

theorem witness_WindowMotionRows :
    hasWindow fl = true ∧ active fl = true ∧ (bridged .brake none none).window.bridge = .brake ∧
      ((bridged .off (some 0) none).window.bridge = .off ∧
        (bridged .off (some 0) none).window.coast ≠ none) ∧
      (fl.window.bridge = .off ∧ fl.window.coast = none ∧ fl.window.unexpected < 15) ∧
      ((win (fun w => { w with unexpected := 15 }) fl).window.unexpected = 15 ∧
        16 ≤ (win (fun w => { w with unexpected := 16 }) fl).window.unexpected) ∧
      ((along .positioned (some 1000) 500 .up).window.bridge = .drive ∧
        (along .positioned (some 1000) 500 .up).window.run = some (rn .up)) ∧
      ((stallAt 150000 (along .positioned (some 1000) 500 .up)).window.run =
          some { rn .up with stall := 150000 } ∧
        150000 - (rn .up).stall < 150001 ∧ 150000 ≤ 150000 - (rn .up).stall ∧
        { rn .up with stall := 149999 }.stall < 150000) ∧
      ((win (fun w => { w with heat := 989 }) fl).window.heat + 10 < 1000 ∧
        1000 ≤ (win (fun w => { w with heat := 990 }) fl).window.heat + 10) ∧
      (along .unpositioned none 0 .down).window.run = some (rn .down) ∧
      (bridged .brake none (some (mv .manual .up .pack))).window.move = some (mv .manual .up .pack) ∧
      (16 ≤ (along .bottomKnown none 16 .down).window.p ∧
        16 < (along .positioned (some 1000) 17 .down).window.p) ∧
      ((400 ≤ (along .bottomKnown none 400 .up).window.p ∧
          (along .bottomKnown none 4000 .up).window.p ≤ 4000) ∧
        (along .bottomKnown none 399 .up).window.p < 400 ∧
        4000 < (along .bottomKnown none 4001 .up).window.p) ∧
      ((along .bottomKnown (some 532) 500 .up).window.pTop = some 532 ∧ 532 ≤ 500 + 32 ∧
        500 + 32 < 533) ∧
      (1000 ≤ (along .positioned (some 1000) 984 .up).window.p + 16 ∧
        (along .positioned (some 1000) 983 .up).window.p + 16 < 1000 ∧ 1000 ≤ 200 + 800 ∧
        ¬ 1000 ≤ 199 + 800 ∧ (rn .up).override = false) ∧
      (1000 - 16 < (along .positioned (some 1000) 985 .up).window.p ∧
        (along .positioned (some 1000) 984 .up).window.p ≤ 1000 - 16) := by decide

/-- R109: the duty at full ramp and at the first step of the ramp, in the entry zone and below it. -/
theorem test_duty :
    let at_ramp (r p : Nat) (d : Dir) : WindowOut :=
      windowBridge { (along .positioned (some 1000) p d).window with run := some { rn d with ramp := r } }
    at_ramp 400 985 .up = .drive .up 280 ∧ at_ramp 400 984 .up = .drive .up 400 ∧
      at_ramp 160 985 .up = .drive .up 160 ∧ at_ramp 400 985 .down = .drive .down 400 := by decide

theorem witness_WindowSwitchRows :
    (active fl = true ∧ fl.pins.wakeDebounce = none) ∧ (at_ 4 fl).straps.position = 4 ∧
      ((child true none none).straps.position = 2 ∧ (child true none none).child.position = true) ∧
      (fl.straps.position ≠ 4 ∧ fl.straps.position ≠ 2 ∧ fl.straps.position ≠ 3) ∧
      (fl.pins.ownSwitch ≠ .up2 ∧ fl.pins.ownSwitch ≠ .up1) ∧
      (pin (fun p => { p with ownSwitch := .up1 }) fl).pins.ownSwitch = .up1 ∧
      ((along .unpositioned none 0 .up).window.move = some (mv .manual .up .ownSwitch) ∧
        fl.window.move = none) ∧
      (pin (fun p => { p with ownSwitch := .down2 }) fl).pins.ownSwitch = .down2 ∧
      (isDriverStation fl = true ∧ expectedStation fl.straps.body 3 = true ∧
        fl.straps.position.val ≠ 3) ∧
      fl.pins.packSwitch[3] = .neutral ∧
      ((pin (fun p => { p with packSwitch := p.packSwitch.set 3 .down1 }) fl).pins.packSwitch[3] =
          .down1 ∧
        (fl.pack.refresh.set 3 (some 0))[3] ≠ none) ∧
      (pin (fun p => { p with packSwitch := p.packSwitch.set 3 .up2 }) fl).pins.packSwitch[3] = .up2 := by
  decide

theorem witness_WindowTimerRows :
    hasWindow fl = true ∧ active fl = true ∧ fl.window.bridge ≠ .drive ∧
      (win (fun w => { w with
        reversalReset := some 0, spentHold := some ⟨.up, 0⟩, globalSpent := some ⟨.up, 0⟩,
        excursion := some 0 }) fl).window.reversalReset ≠ none ∧
      (driving (mv .manual .up .pack) fl).window.move = some (mv .manual .up .pack) ∧
      (driving (mv .global .up .fob) fl).window.move = some (mv .global .up .fob) ∧
      (driving (mv .manual .up .pack) fl).window.bridge = .drive ∧
      (driving (mv .manual .up .pack) fl).window.run = some (rn .up) ∧ (rn .up).openLoad = some 0 ∧
      ((win (fun w => { w with heat := 996 }) upRun).window.heat + 3 < 1000 ∧
        1000 ≤ (win (fun w => { w with heat := 997 }) upRun).window.heat + 3) ∧
      ((win (fun w => { w with onTime := 100000 }) fl).window.bridge ≠ .drive ∧
        100000 ≤ (win (fun w => { w with onTime := 100000 }) fl).window.onTime ∧
        (win (fun w => { w with onTime := 99999 }) fl).window.onTime < 100000) := by decide

theorem witness_MoveEnd :
    upRun.window.move = some (mv .manual .up .ownSwitch) ∧ upRun.window.bridge = .drive ∧
      (bridged .brake none (some (mv .manual .up .pack))).window.bridge ≠ .drive ∧
      { upRun.pinch with mode := .sector }.mode = .sector ∧
      ((⟨0, 3⟩ : Acc).count ≤ 3 ∧ 4 ≤ (⟨0, 4⟩ : Acc).count) ∧
      ((⟨1, 0⟩ : Sector).learn = 0 ∧ (⟨1, 1⟩ : Sector).learn ≠ 0) := by decide

/-- `closed` with its ignition on: every test of R106 passes for an AUTO_UP. -/
def willing (v h : Nat) : State :=
  { win (fun w => { w with heat := h }) closed with
    vehicle := { closed.vehicle with ignition := .on }
    supply := { closed.supply with value := v } }

theorem witness_CommandPermission :
    (permitted ⟨.auto, .up, .ownSwitch⟩ (willing 90 899) = true ∧
        permitted ⟨.auto, .up, .ownSwitch⟩ (willing 160 899) = true) ∧
      (permitted ⟨.auto, .up, .ownSwitch⟩ (willing 89 899) = false ∧
        permitted ⟨.auto, .up, .ownSwitch⟩ (willing 161 899) = false ∧
        permitted ⟨.auto, .up, .ownSwitch⟩ (willing 90 900) = false) ∧
      fl.window.move = none ∧
      (driving (mv .global .up .fob) fl).window.move = some (mv .global .up .fob) ∧
      fl.window.bridge = .off ∧ (bridged .brake none none).window.bridge = .brake ∧
      (upRun.window.bridge = .drive ∧ upRun.window.run = some (rn .up) ∧ (rn .up).dir ≠ .down) := by
  decide +kernel

/-- A step of the monitor of which every test of R124 can be made. -/
def reading : StepReads :=
  { knowledge := .positioned, pTop := 2210, p := 1804, ramp := 400, override := false, supply := 118,
    sTh := 38 }

/-- A monitor with its filtered period and pinch count, past blanking or in it. -/
def monitor (blank : Bool) (steps f n : Nat) : Pinch :=
  { fl.pinch with
    profile := Vector.replicate 32 ⟨300, 5⟩, counter := some 2648, stepCount := steps, blanking := blank
    filtered := some f, fallback := some ⟨331, 118⟩, count := n }

theorem witness_PinchStep :
    ((monitor true 23 331 0).blanking = true ∧ (monitor true 23 331 0).stepCount + 1 ≤ 24) ∧
      ¬ (monitor true 24 331 0).stepCount + 1 ≤ 24 ∧ { reading with ramp := 399 }.ramp < 400 ∧
      (reading.knowledge = .positioned ∧ inPinchZone reading.pTop reading.p = true ∧
        reading.override = false) ∧
      (38 ≤ slowdown 381 331 ∧ slowdown 380 331 < 38 + 1 ∧ slowdown 379 331 < 38) ∧
      ((monitor false 25 381 1).count < 2 ∧ 2 ≤ (monitor false 25 381 2).count) ∧
      inPinchZone reading.pTop 2195 = false := by decide

/-- A REVERSAL whose stop step is 300, at position `p`. -/
def reversalAt (p : Nat) : State :=
  driving { mv .reversal .down .pinch with target := .step 300 } (win (fun w => { w with p := p }) fl)

theorem witness_PinchStep_moves :
    ({ monitor false 25 381 1 with mode := .sector }.mode = .sector ∧ reading.p ≤ reading.pTop - 16 ∧
        2210 - 16 < 2195) ∧
      (let m := { monitor false 25 381 1 with mode := .bin };
        m.mode = .bin ∧ m.holding.length < 16 ∧
          { m with holding := List.replicate 16 (3, 300) }.holding = (3, 300) :: List.replicate 15 (3, 300)) ∧
      upRun.window.move = some (mv .manual .up .ownSwitch) ∧
      ((reversalAt 300).window.move = some { mv .reversal .down .pinch with target := .step 300 } ∧
        (reversalAt 300).window.p ≤ 300 ∧ 300 < (reversalAt 301).window.p) := by decide

/-! ## Witnesses: touch, search and stored settings -/

/-- Electrode 0 with a baseline of 1800 cycles. -/
def electrode (touched : Bool) (on off : Nat) : Electrode :=
  { fl.touch.electrodes[0] with
    baseline := some 28800, touched := touched, onCount := on, offCount := off, discard := false }

theorem witness_TouchRows :
    operating fl = true ∧ { fl.touch with measuring := some 0 }.measuring = some 0 ∧
      (fl.touch.paused = false ∧ { fl.touch with paused := true }.paused = true ∧
        measured (at_ 4 fl) 2 = true ∧ measured fl 2 = false) ∧
      (measured fl 0 = true ∧ (electrode true 0 0).touched = true) ∧
      (fl.touch.electrodes[0].overflow = false ∧ { electrode true 0 0 with overflow := true }.overflow) ∧
      (4095 < 4096 ∧ fl.touch.electrodes[0].discard = true ∧ (electrode false 0 0).discard = false) ∧
      fl.touch.electrodes[0].baseline = none ∧
      ((electrode false 1 0).baseline = some 28800 ∧ (40 : Int) ≤ ((28800 / 16 : Nat) : Int) - 1760 ∧
        ((28800 / 16 : Nat) : Int) - 1761 < 40) ∧
      ((electrode false 1 0).onCount < 2 ∧ 2 ≤ (electrode false 2 0).onCount) ∧
      ((25 : Int) ≤ ((28800 / 16 : Nat) : Int) - 1775 ∧ ((28800 / 16 : Nat) : Int) - 1776 < 25) ∧
      ((electrode true 0 1).offCount < 2 ∧ 2 ≤ (electrode true 0 2).offCount) ∧ fl.touch.measuring = none := by
  decide

/-- Every test of R151 and R152 can hold and can fail, and a first count in SLEEP differs from a touch. -/
theorem witness_TouchRows_delivery :
    ((electrode false 2 0).touched = false ∧ (electrode true 0 0).touched = true) ∧
      (sleeper.power.asleep = true ∧ (electrode false 0 0).onCount = 0 ∧ (electrode false 1 0).onCount = 1) ∧
      (fl.vehicle.ignition = .off ∧ fl.crash.hold = false ∧ ¬ fl.supply.value < 90 ∧
        fl.pins.doorOpen = false ∧ fl.latch.target = .unlocked) ∧
      ((serviced fl).vehicle.ignition = .on ∧ 89 < 90) ∧ fl.search.phase = .idle ∧
      ((sea (fun x => { x with phase := .inFlight }) fl).search.phase ≠ .idle ∧
        (sea (fun x => { x with phase := .inFlight }) fl).search.touchZone = none ∧
        (sea (fun x => { x with phase := .inFlight, touchZone := some .lock }) fl).search.touchZone ≠
          none) := by decide

/-- A search in a phase at FL, whose fob 0 has a verdict. -/
def search (p : SearchPhase) (z : Option Zone) (v : Option Verdict) : State :=
  sea (fun x => { x with phase := p, touchZone := z, verdicts := x.verdicts.set 0 v, driving := some 0 }) fl

theorem witness_SearchRows :
    active fl = true ∧
      ((sea (fun x => { x with wakeWait := .first 5000 }) fl).search.wakeWait = .first 5000 ∧
        (∃ e ∈ fl.link.tx, e.telegram.kind = 8) ∧ (tx [] fl).link.tx = []) ∧
      (sea (fun x => { x with wakeWait := .second 5000 }) fl).search.wakeWait = .second 5000 ∧
      ((search .inFlight none none).search.phase = .inFlight ∧
        min (0 : Fin 6).val 4 = fl.straps.position.val ∧ fl.search.nextSlot ≤ 0 ∧
        min (5 : Fin 6).val 4 = (at_ 4 fl).straps.position.val) ∧
      (search .inFlight none none).search.driving = some 0 ∧
      ((search .collecting none none).search.phase = .collecting ∧
        (search .collecting none none).search.touchZone = none) ∧
      .inside ∈ (search .collecting (some .lock) (some .inside)).search.verdicts.toArray.toList.filterMap id ∧
      .outsideAt 0 ∈
        (search .collecting (some .unlock) (some (.outsideAt 0))).search.verdicts.toArray.toList.filterMap
          id ∧
      .outsideNear 0 ∈
        (search .collecting (some .lock) (some (.outsideNear 0))).search.verdicts.toArray.toList.filterMap
          id ∧
      (search .collecting (some .unlock) none).search.verdicts.toArray.toList.filterMap id = [] := by
  decide

/-- The lists of R165, and the own SEARCH taken and refused. -/
theorem witness_SearchRows_verdicts :
    rankedVerdict [.outsideAt 1, .inside] = .inside ∧
      rankedVerdict [.notFound, .outsideNear 2, .outsideAt 1, .outsideAt 3] = .outsideAt 1 ∧
      rankedVerdict [.outsideNear 2, .outsideNear 1] = .outsideNear 2 ∧
      rankedVerdict [.notFound] = .notFound ∧ rankedVerdict [] = .notFound ∧
      (placeSearch fl).search.awaited = true ∧
      (placeSearch { fl with link := queue 6 }).search.awaited = false := by decide

/-- The borders of R164: 120 and 119 at the cabin, 12 above, 60 and 59 at a door, 8 and 7 of margin. -/
theorem witness_Localisation :
    adjusted fl [] 0 = 0 ∧
      adjusted (sea (fun x => { x with slots := 0x3F }) { fl with settings := { fl.settings with
        options := { fl.settings.options with offsets := Vector.replicate 6 (-32) } } }) [30] 0 = 1 ∧
      adjusted (sea (fun x => { x with slots := 0x3F }) { fl with settings := { fl.settings with
        options := { fl.settings.options with offsets := Vector.replicate 6 31 } } }) [240] 0 = 255 ∧
      adjusted (sea (fun x => { x with slots := 0x3E }) fl) [240] 0 = 0 ∧
      locate [132, 0, 0, 0, 0] 120 = .inside ∧ locate [133, 0, 0, 0, 0] 120 = .outsideAt 0 ∧
      locate [60, 52, 0, 0, 0] 119 = .outsideAt 0 ∧ locate [60, 53, 0, 0, 0] 0 = .outsideNear 0 ∧
      locate [60, 60, 0, 0, 0] 0 = .outsideNear 0 ∧ locate [59, 0, 0, 0, 0] 119 = .notFound := by decide

/-- A write in progress, with and without the service answer that awaits it. -/
def writing (a : Option Awaited) : State :=
  { fl with settings :=
    { fl.settings with
      write := some { contents := .optionSet OptionSet.defaults, elapsed := 0 }, awaited := a } }

theorem witness_SettingsRows :
    operating fl = true ∧ fl.settings.write = none ∧
      ((markRecord .windowRecord fl).settings.writes = .windowRecord :: [] ∧
        RecordName.windowRecord ∉ fl.settings.writes) ∧
      ((writing none).settings.write = some { contents := .optionSet OptionSet.defaults, elapsed := 0 } ∧
        (writing none).settings.awaited = none) ∧
      (writing (some ⟨.option, .optionSet, true⟩)).settings.awaited =
        some ⟨.option, .optionSet, true⟩ := by decide

end Sys2Proof.Tests
end

section
/-! SUPPORT. The transmit queue as a list: what a placement makes of it, and the laws that every change of the
queue keeps (R12 to R14). -/

open Sys2Proof Sys2Proof.Machine Sys2Proof.Safety Sys2Proof.Claims

namespace Sys2Proof.Machine

/-! ## Placement (R12 to R15) -/

/-- The model's test for a replacement is that of the statements (R13, R14). -/
theorem replaces_iff (t : Telegram) (e : TxEntry) : replaces t e = true ↔ takesOver t e := by
  simp [replaces, takesOver, kState, kWindowreq, and_assoc]

/-- An entry that is not taken over stays as it is. -/
theorem replaceEntry_of_not (t : Telegram) (e : TxEntry) (h : ¬ takesOver t e) : replaceEntry t e = e := by
  rw [← replaces_iff] at h
  simp [replaceEntry, h]

/-- An entry that is taken over keeps its contents for as long as its attempt runs (R13, R14). -/
theorem replaceEntry_of_takesOver (t : Telegram) (e : TxEntry) (h : takesOver t e) :
    replaceEntry t e = tookOver t e := by
  rw [← replaces_iff] at h
  simp [replaceEntry, tookOver, h]

/-- In a queue in order of kind, a telegram enters behind every entry of its own and lower kinds (R12). -/
theorem insertEntry_of_sorted (e : TxEntry) (l : List TxEntry) (h : sortedByKind l) :
    insertEntry e l =
      l.filter (fun x => decide (x.telegram.kind ≤ e.telegram.kind)) ++
        e :: l.filter (fun x => decide (e.telegram.kind < x.telegram.kind)) := by
  induction l with
  | nil => rfl
  | cons x xs ih =>
    obtain ⟨hx, hxs⟩ := List.pairwise_cons.mp h
    by_cases hlt : e.telegram.kind < x.telegram.kind
    · have hall : ∀ y ∈ x :: xs, e.telegram.kind < y.telegram.kind := by
        intro y hy
        rcases List.mem_cons.mp hy with rfl | hy
        · exact hlt
        · exact Nat.lt_of_lt_of_le hlt (hx y hy)
      have hlow : (x :: xs).filter (fun y => decide (y.telegram.kind ≤ e.telegram.kind)) = [] := by
        simpa [List.filter_eq_nil_iff, BitVec.not_le] using hall
      have hhigh : (x :: xs).filter (fun y => decide (e.telegram.kind < y.telegram.kind)) = x :: xs := by
        simpa [List.filter_eq_self] using hall
      rw [hlow, hhigh, insertEntry, if_pos hlt, List.nil_append]
    · have hle : x.telegram.kind ≤ e.telegram.kind := BitVec.not_lt.mp hlt
      rw [insertEntry, if_neg hlt, ih hxs]
      simp [hlt, hle]

/-- A STUCK link drops what is placed (R22). -/
theorem enqueue_of_stuck (t : Telegram) (l : Link) (h : l.state = .stuck) : enqueue t l = (l, .dropped) := by
  simp [enqueue, h]

/-- A placement that takes over queued entries (R13, R14). -/
theorem enqueue_of_takesOver (t : Telegram) (l : Link) (h : l.state ≠ .stuck)
    (ht : ∃ e ∈ l.tx, takesOver t e) :
    enqueue t l = ({ l with tx := l.tx.map (replaceEntry t) }, .taken) := by
  have hany : l.tx.any (replaces t) = true := by simpa [List.any_eq_true, replaces_iff] using ht
  simp [enqueue, h, hany]

/-- A placement in a full queue is refused (R15). -/
theorem enqueue_of_full (t : Telegram) (l : Link) (h : l.state ≠ .stuck) (ht : ∀ e ∈ l.tx, ¬ takesOver t e)
    (hf : 6 ≤ l.tx.length) : enqueue t l = (l, .refused) := by
  have hany : l.tx.any (replaces t) = false := by
    simpa [List.any_eq_false, ← Bool.not_eq_true, replaces_iff] using ht
  simp [enqueue, h, hany, Config.txCapacity, hf]

/-- A placement in a queue with a free place, as a fresh entry (R12). -/
theorem enqueue_of_room (t : Telegram) (l : Link) (h : l.state ≠ .stuck) (ht : ∀ e ∈ l.tx, ¬ takesOver t e)
    (hf : l.tx.length < 6) :
    enqueue t l = ({ l with tx := insertEntry (freshEntry t) l.tx }, .taken) := by
  have hany : l.tx.any (replaces t) = false := by
    simpa [List.any_eq_false, ← Bool.not_eq_true, replaces_iff] using ht
  have hroom : ¬ 6 ≤ l.tx.length := by omega
  simp [enqueue, h, hany, Config.txCapacity, hroom]

/-- What a placement can do, with the queue it leaves (R12 to R15, R22). -/
theorem enqueue_cases (t : Telegram) (l : Link) :
    (l.state = .stuck ∧ enqueue t l = (l, .dropped)) ∨
    (l.state ≠ .stuck ∧ (∃ e ∈ l.tx, takesOver t e) ∧
      enqueue t l = ({ l with tx := l.tx.map (replaceEntry t) }, .taken)) ∨
    (l.state ≠ .stuck ∧ (∀ e ∈ l.tx, ¬ takesOver t e) ∧ 6 ≤ l.tx.length ∧ enqueue t l = (l, .refused)) ∨
    (l.state ≠ .stuck ∧ (∀ e ∈ l.tx, ¬ takesOver t e) ∧ l.tx.length < 6 ∧
      enqueue t l = ({ l with tx := insertEntry (freshEntry t) l.tx }, .taken)) := by
  by_cases hs : l.state = .stuck
  · exact .inl ⟨hs, enqueue_of_stuck t l hs⟩
  by_cases ht : ∃ e ∈ l.tx, takesOver t e
  · exact .inr (.inl ⟨hs, ht, enqueue_of_takesOver t l hs ht⟩)
  push Not at ht
  rcases Nat.lt_or_ge l.tx.length 6 with hf | hf
  · exact .inr (.inr (.inr ⟨hs, ht, hf, enqueue_of_room t l hs ht hf⟩))
  · exact .inr (.inr (.inl ⟨hs, ht, hf, enqueue_of_full t l hs ht hf⟩))

/-- A placement that the link takes changes the state's link alone. -/
theorem place_of_taken (t : Telegram) (s : State) (l : Link) (h : enqueue t s.link = (l, .taken)) :
    place t s = ({ s with link := l }, .taken) := by
  simp [place, h]

/-- A placement that the link does not take leaves the queue as it is. -/
theorem link_of_not_taken (t : Telegram) (l l' : Link) (a : Placed) (h : enqueue t l = (l', a))
    (ha : a ≠ .taken) : l' = l := by
  rcases enqueue_cases t l with ⟨_, he⟩ | ⟨_, _, he⟩ | ⟨_, _, _, he⟩ | ⟨_, _, _, he⟩ <;> simp_all

/-- A dropped placement leaves nothing (R22). -/
theorem place_of_dropped (t : Telegram) (s : State) (l : Link) (h : enqueue t s.link = (l, .dropped)) :
    place t s = (s, .dropped) := by
  obtain rfl := link_of_not_taken t s.link l .dropped h (by decide)
  simp [place, h]

/-- A refused placement is captured as TX_OVERFLOW with its kind (R15). -/
theorem place_of_refused (t : Telegram) (s : State) (l : Link) (h : enqueue t s.link = (l, .refused)) :
    place t s = (captureAwake .txOverflow (t.kind.setWidth 8) 0 0 s, .refused) := by
  obtain rfl := link_of_not_taken t s.link l .refused h (by decide)
  simp [place, h]

end Sys2Proof.Machine

/-- Settles O19: the four answers of the link, and of a placement at the state, case by case. -/
theorem placementRules : Obligations.PlacementRules := by
  refine ⟨fun t l => ⟨enqueue_of_stuck t l, fun hs => ⟨?_, fun ht => ⟨enqueue_of_full t l hs ht, ?_⟩⟩⟩,
    fun t s l => ⟨place_of_taken t s l, place_of_dropped t s l, place_of_refused t s l⟩⟩
  · intro pre e post htx he hother
    have hkeep : ∀ xs : List TxEntry, (∀ x ∈ xs, x ∈ pre ++ post) → xs.map (replaceEntry t) = xs := fun xs hxs =>
      (List.map_congr_left fun x hx => replaceEntry_of_not t x (hother x (hxs x hx))).trans (List.map_id' xs)
    rw [enqueue_of_takesOver t l hs ⟨e, by simp [htx], he⟩, htx, List.map_append, List.map_cons,
      hkeep pre (fun x hx => List.mem_append_left _ hx), hkeep post (fun x hx => List.mem_append_right _ hx),
      replaceEntry_of_takesOver t e he]
  · intro hroom hsort
    rw [enqueue_of_room t l hs ht hroom, insertEntry_of_sorted _ _ hsort]
    rfl

end

section
/-! SUPPORT. The operations of the blocks that leave the zone bus link alone: what they decide stays inside the
station. -/

open Sys2Proof Sys2Proof.Machine Sys2Proof.Safety Sys2Proof.Claims

namespace Sys2Proof.Machine

variable (s : State)

/-! ## Lock logic and latch -/

@[simp] theorem debounced_link (i : SwitchInput) : (debounced i s).link = s.link := rfl

@[simp] theorem takeLock_link (src : ActionSource) (c : LockCause) (n : Byte) (own : Bool) :
    (takeLock src c n own s).link = s.link := by
  simp only [takeLock]; split_ifs <;> rfl

@[simp] theorem takeDeadlock_link (src : ActionSource) (c : LockCause) (n : Byte) (own : Bool) :
    (takeDeadlock src c n own s).link = s.link := by
  simp only [takeDeadlock]; split_ifs <;> simp

@[simp] theorem takeUnlock_link (src : ActionSource) (c : LockCause) (own : Bool) :
    (takeUnlock src c own s).link = s.link := rfl

@[simp] theorem takeRequest_link (a : CentralAction) (src : ActionSource) (c : LockCause) (n : Byte) (own : Bool) :
    (takeRequest a src c n own s).link = s.link := by
  unfold takeRequest; cases a <;> [simp; (dsimp only; split <;> simp); simp]

@[simp] theorem requestOutcome_link (q : Byte) (confirmed : Bool) :
    (requestOutcome q confirmed s).link = s.link := by
  unfold requestOutcome
  split
  · rfl
  · split <;> [(dsimp only; split <;> simp); rfl]

@[simp] theorem driveAwayTest_link : (driveAwayTest s).link = s.link := by
  simp only [driveAwayTest]; split_ifs <;> simp

@[simp] theorem peerChange_link (n : Fin 8) (opened : Bool) : (peerChange n opened s).link = s.link := by
  simp only [peerChange]; split <;> simp

@[simp] theorem vehicleChangeLock_link : (vehicleChangeLock s).link = s.link := by
  simp only [vehicleChangeLock]; split <;> simp


@[simp] theorem followUpLock_link : (followUpLock s).link = s.link := by
  simp only [followUpLock]; split_ifs <;> rfl

@[simp] theorem doorOpenLatch_link : (doorOpenLatch s).link = s.link := by
  simp only [doorOpenLatch]; split <;> rfl


@[simp] theorem doorChange_link (b : Bool) : (doorChange b s).link = s.link := by
  simp only [doorChange]; split_ifs <;> simp

@[simp] theorem releaseRequest_link : (releaseRequest s).link = s.link := by
  simp only [releaseRequest]; repeat' split
  all_goals rfl

@[simp] theorem handlePull_link : (handlePull s).link = s.link := by
  simp only [handlePull]; split <;> rfl

/-! ## Window drive -/

@[simp] theorem handAccumulators_link (atTop : Bool) : (handAccumulators atTop s).link = s.link := by
  simp only [handAccumulators]; split_ifs <;> rfl

@[simp] theorem endMove_link (m : Manner) (a b : Bool) (r : StopReason) : (endMove m a b r s).link = s.link := by
  unfold endMove; split <;> simp

@[simp] theorem thermalEnd_link : (thermalEnd s).link = s.link := by
  simp only [thermalEnd]; split <;> simp

@[simp] theorem startRun_link (m : Move) : (startRun m s).link = s.link := by
  simp only [startRun, thermalEnd_link, onPinch_link, onWindow_link]; split <;> rfl

@[simp] theorem takeMove_link (m : Move) : (takeMove m s).link = s.link := by
  simp only [takeMove]; split <;> [simp; rfl; (split <;> rfl)]

@[simp] theorem takeCommand_link (c : Command) : (takeCommand c s).link = s.link := by
  simp only [takeCommand]; split_ifs <;> simp

@[simp] theorem endIf_link (m : Manner) (f : Move → Bool) (b : Bool) : (endIf m f b s).link = s.link := by
  unfold endIf; split <;> [(split <;> simp); rfl]

@[simp] theorem ownSwitchChange_link (c : SwitchCommand) : (ownSwitchChange c s).link = s.link := by
  cases c <;> simp [ownSwitchChange, releaseSwitch]

@[simp] theorem packManual_link (d : Dir) : (packManual d s).link = s.link := by
  simp only [packManual]; repeat' split
  all_goals simp

@[simp] theorem windowRequest_link (a : WindowAction) : (windowRequest a s).link = s.link := by
  cases a <;> simp [windowRequest, packAuto, packStop]

@[simp] theorem setKnowledge_link (k : Knowledge) : (setKnowledge k s).link = s.link := by
  simp only [setKnowledge]; split <;> rfl

@[simp] theorem bottomEnd_link : (bottomEnd s).link = s.link := by
  simp only [bottomEnd]; split <;> simp

@[simp] theorem blocked_link : (blocked s).link = s.link := by simp [blocked]

@[simp] theorem topEnd_link (t : Nat) : (topEnd t s).link = s.link := by simp [topEnd]

@[simp] theorem reversalStep_link : (reversalStep s).link = s.link := by
  simp only [reversalStep]; repeat' split
  all_goals simp

@[simp] theorem crankWindow_link : (crankWindow s).link = s.link := by simp [crankWindow]
@[simp] theorem childOnWindow_link : (childOnWindow s).link = s.link := by simp [childOnWindow]

@[simp] theorem startGlobal_link (d : Dir) : (startGlobal d s).link = s.link := by
  simp only [startGlobal]; split_ifs <;> simp

@[simp] theorem renewGlobal_link (d : Dir) : (renewGlobal d s).link = s.link := by
  simp only [renewGlobal]; split <;> simp

@[simp] theorem globalFrame_link (d : Dir) : (globalFrame d s).link = s.link := by
  simp only [globalFrame]; split_ifs <;> simp

@[simp] theorem endGlobal_link (d : Dir) : (endGlobal d s).link = s.link := by
  simp only [endGlobal]; split <;> simp

@[simp] theorem heatTick_link : (heatTick s).link = s.link := by simp [heatTick]
@[simp] theorem coolTick_link : (coolTick s).link = s.link := rfl
@[simp] theorem coastOver_link : (coastOver s).link = s.link := rfl
@[simp] theorem leaseOver_link : (leaseOver s).link = s.link := by simp [leaseOver]
@[simp] theorem spentHoldOver_link : (spentHoldOver s).link = s.link := rfl
@[simp] theorem globalSpentOver_link : (globalSpentOver s).link = s.link := rfl
@[simp] theorem rampOver_link : (rampOver s).link = s.link := rfl
@[simp] theorem excursionOver_link : (excursionOver s).link = s.link := by simp [excursionOver]
@[simp] theorem counterOver_link : (counterOver s).link = s.link := rfl

@[simp] theorem windowBrakeOver_link : (windowBrakeOver s).link = s.link := by
  simp only [windowBrakeOver]; split <;> simp

/-! ## Child safety, crash response, search and touch -/

@[simp] theorem takeChildRequest_link (on : Bool) : (takeChildRequest on s).link = s.link := by
  simp only [takeChildRequest]; split <;> rfl

@[simp] theorem crashLock_link : (crashLock s).link = s.link := rfl

@[simp] theorem setCrashNumber_link (n : Fin 8) (x : Byte) : (setCrashNumber n x s).link = s.link := by
  simp only [setCrashNumber]; split <;> rfl

@[simp] theorem resumeTouch_link : (resumeTouch s).link = s.link := rfl
@[simp] theorem enterFlight_link (t : Telegram) : (enterFlight t s).link = s.link := rfl
@[simp] theorem abandonSearch_link : (abandonSearch s).link = s.link := rfl

@[simp] theorem searchOutcome_link (t : Telegram) (sent : Bool) : (searchOutcome t sent s).link = s.link := by
  simp only [searchOutcome]; split_ifs <;> rfl

@[simp] theorem stateAttemptEnded_link : (stateAttemptEnded s).link = s.link := by
  simp only [stateAttemptEnded]; split <;> rfl

@[simp] theorem takeReadings_link (f : Fin 4) (n : Byte) (r : List Byte) : (takeReadings f n r s).link = s.link := by
  simp only [takeReadings]; repeat' split
  all_goals rfl

@[simp] theorem startPeriod_link : (startPeriod s).link = s.link := rfl

@[simp] theorem chainMeasurement_link (i : Fin 3) : (chainMeasurement i s).link = s.link := rfl

/-! ## Fobs, settings, roster and vehicle status -/

@[simp] theorem awaitWrite_link (k : Subtype) (r : RecordName) : (awaitWrite k r s).link = s.link := rfl

@[simp] theorem startWrite_link : (startWrite s).link = s.link := by
  unfold startWrite; split <;> rfl

@[simp] theorem fobLock_link (f : Fin 4) (c : BitVec 24) : (fobLock f c s).link = s.link := by
  simp only [fobLock]; split <;> simp

@[simp] theorem fobUnlock_link (f : Fin 4) (c : BitVec 24) : (fobUnlock f c s).link = s.link := by
  simp only [fobUnlock]; split <;> simp

@[simp] theorem fobLockWindow_link : (fobLockWindow s).link = s.link := by simp [fobLockWindow]
@[simp] theorem fobUnlockWindow_link : (fobUnlockWindow s).link = s.link := by simp [fobUnlockWindow]

@[simp] theorem dispatchReport_link (ownLine : Bool) (r : FobReport) :
    (dispatchReport ownLine r s).link = s.link := by
  unfold dispatchReport
  cases r.command <;> simp <;> split_ifs <;> simp

@[simp] theorem takeReport_link (ownLine : Bool) (r : FobReport) : (takeReport ownLine r s).link = s.link := by
  simp only [takeReport]; split_ifs <;> simp

@[simp] theorem clearFilters_link (n : Fin 8) : (clearFilters n s).link = s.link := by simp [clearFilters]

@[simp] theorem evidence_link (n : Fin 8) : (evidence n s).link = s.link := by
  simp only [evidence]; split <;> simp

@[simp] theorem takeState_link (n : Fin 8) (c : StateContents) : (takeState n c s).link = s.link := by
  simp only [takeState]; split_ifs <;> simp

@[simp] theorem vehicleChange_link (old : Vehicle) : (vehicleChange old s).link = s.link := by
  simp only [vehicleChange]; split_ifs <;> simp

@[simp] theorem takeVehicle_link (v : Byte) (i : Ignition) : (takeVehicle v i s).link = s.link := by
  simp only [takeVehicle, vehicleChange_link]; split <;> rfl

@[simp] theorem takeCentral_link (n : Fin 8) (a : CentralAction) (c : LockCause) (q x : Byte) :
    (takeCentral n a c q x s).link = s.link := by
  simp only [takeCentral, filterLockreq]; split <;> simp

@[simp] theorem takeChild_link (n : Fin 8) (on : Bool) (q : Byte) : (takeChild n on q s).link = s.link := by
  simp only [takeChild, filterLockreq]; split <;> simp

@[simp] theorem takeWindowreq_link (n : Fin 8) (set : Byte) (a : WindowAction) (q : Byte) :
    (takeWindowreq n set a q s).link = s.link := by
  simp only [takeWindowreq, filterWindowreq]; split_ifs <;> simp

/-! ## Power control -/

@[simp] theorem stateOutcome_link (collided : Bool) : (stateOutcome collided s).link = s.link := by
  simp only [stateOutcome]; split_ifs <;> rfl

@[simp] theorem trySettle_link : (trySettle s).link = s.link := by
  simp only [trySettle]; split <;> rfl

@[simp] theorem deliverOutcome_link (collided left : Bool) (t : Telegram) :
    (deliverOutcome collided left t s).link = s.link := by
  unfold deliverOutcome
  repeat' split
  all_goals simp

@[simp] theorem dropEntry_link (e : TxEntry) : (dropEntry s e).link = s.link := by
  unfold dropEntry
  repeat' split
  all_goals simp

@[simp] theorem powerReceived_link (t : Telegram) : (powerReceived t s).link = s.link := rfl

@[simp] theorem keepSample_link (v : Nat) : (keepSample v s).link = s.link := by
  simp only [keepSample]; split <;> rfl

@[simp] theorem takeSample_link (v : Nat) : (takeSample v s).link = s.link := by
  simp only [takeSample]; split <;> simp

@[simp] theorem bootDoor_link : (bootDoor s).link = s.link := by
  simp only [bootDoor]; split_ifs <;> rfl

/-- The entry into CONFIG_FAULT fills the fault record (R27). -/
@[simp] theorem enterConfigFault_link : (enterConfigFault s).link = s.link := rfl

end Sys2Proof.Machine
end

section
/-! SUPPORT. The queue laws (R12 to R14, R17) as a property of the two queues, and every operation that keeps
them: a placement, an attempt's start and end, a withdrawal, a reception, a taking. -/

open Sys2Proof Sys2Proof.Machine Sys2Proof.Safety Sys2Proof.Claims

namespace Sys2Proof.Machine

/-! ## The laws of a transmit queue -/

/-- The laws of a transmit queue (R12 to R14): what `QueueLaw` says of it. -/
structure TxLaw (tx : List TxEntry) : Prop where
  capacity : tx.length ≤ 6
  order : sortedByKind tx
  oneState : stateEntries tx ≤ 1
  waiting : ∀ e ∈ tx, ∀ t, e.waiting = some t → t.kind = e.telegram.kind

/-- The kinds of the entries of a transmit queue, in order. -/
def kindsOf (tx : List TxEntry) : List (BitVec 4) := tx.map (·.telegram.kind)

theorem sortedByKind_iff (tx : List TxEntry) : sortedByKind tx ↔ (kindsOf tx).Pairwise (· ≤ ·) :=
  List.pairwise_map.symm

theorem stateEntries_eq_count (tx : List TxEntry) : stateEntries tx = (kindsOf tx).count kState := by
  simp [stateEntries, kindsOf, List.count_eq_countP, List.countP_eq_length_filter, List.filter_map,
    Function.comp_def]

/-- An empty queue keeps the laws. -/
theorem txLaw_nil : TxLaw [] := ⟨by simp, .nil, by simp [stateEntries], by simp⟩

/-- Where entries leave and the kinds of the others stay, the laws are kept. -/
theorem TxLaw.of_kinds_sublist {tx tx' : List TxEntry} (h : TxLaw tx) (hk : (kindsOf tx').Sublist (kindsOf tx))
    (hw : ∀ e ∈ tx', ∀ t, e.waiting = some t → t.kind = e.telegram.kind) : TxLaw tx' where
  capacity := by
    have := hk.length_le
    simp only [kindsOf, List.length_map] at this
    exact this.trans h.capacity
  order := (sortedByKind_iff _).mpr (((sortedByKind_iff _).mp h.order).sublist hk)
  oneState := by
    have := h.oneState
    rw [stateEntries_eq_count] at this ⊢
    exact (hk.count_le _).trans this
  waiting := hw

/-- Entries may leave (R10, R16, R22). -/
theorem TxLaw.of_sublist {tx tx' : List TxEntry} (h : TxLaw tx) (hs : tx'.Sublist tx) : TxLaw tx' :=
  h.of_kinds_sublist (hs.map _) fun e he => h.waiting e (hs.subset he)

/-- Entries may change, each within its kind. -/
theorem TxLaw.map {tx : List TxEntry} (h : TxLaw tx) (f : TxEntry → TxEntry)
    (hk : ∀ e ∈ tx, (f e).telegram.kind = e.telegram.kind)
    (hw : ∀ e ∈ tx, ∀ t, (f e).waiting = some t → t.kind = (f e).telegram.kind) : TxLaw (tx.map f) :=
  h.of_kinds_sublist
    (by rw [kindsOf, List.map_map]; exact (List.map_congr_left hk).symm ▸ List.Sublist.refl _)
    (by simpa using hw)

/-- A fresh entry enters a queue that has a free place, and no STATE where it is one (R12, R13). -/
theorem TxLaw.insert {tx : List TxEntry} (h : TxLaw tx) (t : Telegram) (hroom : tx.length < 6)
    (hnew : ∀ e ∈ tx, ¬ takesOver t e) : TxLaw (insertEntry (freshEntry t) tx) where
  capacity := by rw [insertEntry_length]; omega
  order := by
    rw [insertEntry_of_sorted _ _ h.order, sortedByKind, List.pairwise_append, List.pairwise_cons]
    refine ⟨h.order.filter _, ⟨fun x hx => ?_, h.order.filter _⟩, fun x hx y hy => ?_⟩
    · exact Nat.le_of_lt (of_decide_eq_true (List.mem_filter.mp hx).2)
    · have hxt : x.telegram.kind ≤ t.kind := of_decide_eq_true (List.mem_filter.mp hx).2
      rcases List.mem_cons.mp hy with rfl | hy
      · exact hxt
      · exact Nat.le_trans hxt (Nat.le_of_lt (of_decide_eq_true (List.mem_filter.mp hy).2))
  oneState := by
    have hsplit : stateEntries (insertEntry (freshEntry t) tx) =
        stateEntries tx + if t.kind = kState then 1 else 0 := by
      clear h hroom hnew
      induction tx with
      | nil => by_cases hk : t.kind = kState <;> simp [insertEntry, stateEntries, freshEntry, hk]
      | cons x xs ih =>
        simp only [stateEntries] at ih ⊢
        by_cases hk : t.kind = kState <;> by_cases hx : x.telegram.kind = kState <;> simp only [insertEntry] <;>
          split <;> simp_all [freshEntry]
    rw [hsplit]
    split
    · have hnone : stateEntries tx = 0 := by
        simp only [stateEntries, List.length_eq_zero_iff, List.filter_eq_nil_iff]
        intro e he hs
        exact hnew e he (.inl ⟨‹_›, by simpa [kState] using hs⟩)
      omega
    · exact h.oneState
  waiting := by
    intro e he
    rcases (mem_insertEntry _ _ _).mp he with rfl | he
    · simp [freshEntry]
    · exact h.waiting e he

/-- A replaced entry waits for a telegram of its own kind (R13, R14). -/
theorem replaceEntry_waiting (t : Telegram) (e : TxEntry)
    (h : ∀ u, e.waiting = some u → u.kind = e.telegram.kind) :
    ∀ u, (replaceEntry t e).waiting = some u → u.kind = (replaceEntry t e).telegram.kind := by
  intro u hu
  rw [replaceEntry_kind]
  by_cases ht : takesOver t e
  · have hkind : t.kind = e.telegram.kind := by
      rcases ht with ⟨h1, h2⟩ | ⟨h1, h2, _⟩ <;> rw [h1, h2]
    rw [replaceEntry_of_takesOver t e ht, tookOver] at hu
    split at hu
    · exact (Option.some.inj hu) ▸ hkind
    · exact h u hu
  · rw [replaceEntry_of_not t e ht] at hu
    exact h u hu

/-- A placement keeps the laws (R12 to R15, R22). -/
theorem enqueue_txLaw (t : Telegram) (l : Link) (h : TxLaw l.tx) : TxLaw (enqueue t l).1.tx := by
  rcases enqueue_cases t l with ⟨_, he⟩ | ⟨_, _, he⟩ | ⟨_, _, _, he⟩ | ⟨_, hnew, hroom, he⟩ <;> rw [he]
  · exact h
  · exact h.map _ (fun e _ => replaceEntry_kind t e) fun e he => replaceEntry_waiting t e (h.waiting e he)
  · exact h
  · exact h.insert t hroom hnew

/-- An entry refreshed at a lost arbitration keeps its kind, and waits for nothing of another kind (R5). -/
theorem refreshed_kind (e : TxEntry) (h : ∀ t, e.waiting = some t → t.kind = e.telegram.kind) :
    (refreshed e).telegram.kind = e.telegram.kind ∧
      ∀ t, (refreshed e).waiting = some t → t.kind = (refreshed e).telegram.kind := by
  cases hw : e.waiting with
  | none => simp [refreshed, hw]
  | some t => simp [refreshed, hw, freshEntry, h t hw]

/-- What an attempt leaves of its entry has the entry's kind (R10, R13, R14). -/
theorem entryAfter_kinds (held : Bool) (missing : Byte) (e : TxEntry)
    (h : ∀ t, e.waiting = some t → t.kind = e.telegram.kind) :
    (kindsOf (entryAfter held missing e)).Sublist [e.telegram.kind] ∧
      ∀ x ∈ entryAfter held missing e, x.waiting = none := by
  unfold entryAfter
  cases hw : e.waiting with
  | none => dsimp only; split <;> simp [kindsOf]
  | some t => simp [kindsOf, freshEntry, h t hw]

/-- The queue after an attempt keeps the laws (R10, R13, R14). -/
theorem TxLaw.afterAttempt {tx : List TxEntry} (h : TxLaw tx) (held : Bool) (missing : Byte) :
    TxLaw (tx.flatMap fun x => if x.inAttempt then entryAfter held missing x else [x]) := by
  refine h.of_kinds_sublist ?_ ?_
  · have hw := h.waiting
    clear h
    induction tx with
    | nil => simp [kindsOf]
    | cons x xs ih =>
      simp only [kindsOf, List.flatMap_cons, List.map_append, List.map_cons] at ih ⊢
      refine List.Sublist.append (l₂ := [_]) ?_ (ih fun e he => hw e (.tail _ he))
      split
      · exact (entryAfter_kinds held missing x (hw x (.head _))).1
      · exact List.Sublist.refl _
  · intro e he t ht
    obtain ⟨x, hx, hex⟩ := List.mem_flatMap.mp he
    split at hex
    · rw [(entryAfter_kinds held missing x (h.waiting x hx)).2 e hex] at ht
      cases ht
    · obtain rfl := List.mem_singleton.mp hex
      exact h.waiting e hx t ht

/-- The head's attempt begins (R4): the queue keeps its laws. -/
theorem TxLaw.startHead {tx : List TxEntry} (h : TxLaw tx) : TxLaw (startHead tx) := by
  cases tx with
  | nil => exact h
  | cons e es =>
    refine h.of_kinds_sublist (List.Sublist.refl _) ?_
    intro x hx
    rcases List.mem_cons.mp hx with rfl | hx
    · exact h.waiting e (.head _)
    · exact h.waiting x (.tail _ hx)

/-! ## The laws of both queues at a station -/

/-- The queue laws of a station as a property of its link: those of its transmit queue, and the capacity of
its receive queue (R17). -/
def LinkLaw (l : Link) : Prop := TxLaw l.tx ∧ l.rx.length ≤ 4

theorem queueLaw_iff (s : State) : QueueLaw s ↔ LinkLaw s.link :=
  ⟨fun ⟨a, b, c, d, e⟩ => ⟨⟨a, b, c, d⟩, e⟩, fun ⟨⟨a, b, c, d⟩, e⟩ => ⟨a, b, c, d, e⟩⟩

/-- A link with the queues of one that keeps the laws. -/
theorem LinkLaw.of_queues {l l' : Link} (h : LinkLaw l) (htx : l'.tx = l.tx) (hrx : l'.rx = l.rx) :
    LinkLaw l' := by
  rw [LinkLaw, htx, hrx]
  exact h

variable {s : State}

/-! ## Placement, capture and the end of an event -/

@[simp] theorem enqueue_linkLaw (t : Telegram) {l : Link} (h : LinkLaw l) : LinkLaw (enqueue t l).1 :=
  ⟨enqueue_txLaw t l h.1, (enqueue_frame t l).2.2.2.2.1 ▸ h.2⟩

@[simp] theorem placeFault_linkLaw (h : LinkLaw s.link) : LinkLaw (placeFault s).link := by
  unfold placeFault
  split
  · exact h
  · rename_i r _
    have hq := enqueue_linkLaw (ownTelegram s kFault (faultPayload r)) h
    split <;> (rename_i he; rw [he] at hq; exact hq)

@[simp] theorem captureAwake_linkLaw (k : FaultKind) (a b c : Byte) (h : LinkLaw s.link) :
    LinkLaw (captureAwake k a b c s).link := by
  simp only [captureAwake]; split
  · exact placeFault_linkLaw h
  · exact h

@[simp] theorem place_linkLaw (t : Telegram) (h : LinkLaw s.link) : LinkLaw (place t s).1.link := by
  have hq := enqueue_linkLaw t h
  unfold place
  split <;> (rename_i he; rw [he] at hq)
  · exact captureAwake_linkLaw _ _ _ _ hq
  · exact hq

@[simp] theorem placeState_linkLaw (h : LinkLaw s.link) : LinkLaw (placeState s).link := place_linkLaw _ h

@[simp] theorem reportOnce_linkLaw (h : LinkLaw s.link) : LinkLaw (reportOnce s).link := by
  simp only [reportOnce]; split <;> simp [h]

@[simp] theorem reportChanges_linkLaw (h : LinkLaw s.link) : LinkLaw (reportChanges s).link := by simp [reportChanges, h]

@[simp] theorem conclude_linkLaw (h : LinkLaw s.link) : LinkLaw (conclude s).link := by
  simp only [conclude]; split <;> simp [h]

@[simp] theorem wake_linkLaw (h : LinkLaw s.link) : LinkLaw (wake s).link := by
  simp only [wake]; split
  · exact placeState_linkLaw h
  · exact h

@[simp] theorem capture_linkLaw (k : FaultKind) (a b c : Byte) (h : LinkLaw s.link) : LinkLaw (capture k a b c s).link := by
  simp [capture, h]

@[simp] theorem inputChange_linkLaw (i : SwitchInput) (h : LinkLaw s.link) : LinkLaw (inputChange i s).link := by
  simp [inputChange, h]

/-! ## The blocks -/

@[simp] theorem withTimeout_linkLaw (r : Latch × Bool) (h : LinkLaw s.link) : LinkLaw (withTimeout r s).link := by
  simp only [withTimeout]; split <;> simp [h]

@[simp] theorem placeRequest_linkLaw (a : CentralAction) (c : LockCause) (n : Byte) (h : LinkLaw s.link) :
    LinkLaw (placeRequest a c n s).link := by
  simp only [placeRequest]; split <;> simpa using place_linkLaw (s := stepSequence s) _ h

@[simp] theorem keyLock_linkLaw (h : LinkLaw s.link) : LinkLaw (keyLock s).link := by
  unfold keyLock; split <;> exact placeRequest_linkLaw _ _ _ h

@[simp] theorem unexpectedEdge_linkLaw (h : LinkLaw s.link) : LinkLaw (unexpectedEdge s).link := by
  unfold unexpectedEdge
  split
  · exact h
  · dsimp only
    split
    · exact capture_linkLaw _ _ _ _ ((setKnowledge_link _ _).symm ▸ h)
    · exact h

@[simp] theorem declarePinch_linkLaw (h : LinkLaw s.link) : LinkLaw (declarePinch s).link := by
  unfold declarePinch
  split
  · exact h
  · exact place_linkLaw _ h

@[simp] theorem learnTop_linkLaw (h : LinkLaw s.link) : LinkLaw (learnTop s).link := by
  simp only [learnTop]
  split
  · split <;> simp <;> [(split <;> simp [h]); exact h]
  · simp [h]

@[simp] theorem stalled_linkLaw (h : LinkLaw s.link) : LinkLaw (stalled s).link := by
  simp only [stalled]; repeat' split
  all_goals simp [h]

@[simp] theorem drivenStep_linkLaw (r : Run) (h : LinkLaw s.link) : LinkLaw (drivenStep r s).link := by
  simp only [drivenStep]; repeat' split
  all_goals simp [h]

@[simp] theorem hallEdge_linkLaw (h : LinkLaw s.link) : LinkLaw (hallEdge s).link := by
  simp only [hallEdge]; repeat' split
  all_goals simp [h]

@[simp] theorem placeWindowreq_linkLaw (k : Fin 4) (a : WindowAction) (h : LinkLaw s.link) :
    LinkLaw (placeWindowreq k a s).link :=
    place_linkLaw (s := stepSequence s) _ h

@[simp] theorem packChange_linkLaw (k : Fin 4) (b a : SwitchPos) (h : LinkLaw s.link) : LinkLaw (packChange k b a s).link := by
  unfold packChange
  split
  · exact placeWindowreq_linkLaw _ _ h
  · exact placeWindowreq_linkLaw _ _ h
  · exact placeWindowreq_linkLaw _ _ h
  · split <;> exact h

@[simp] theorem elapse_linkLaw (n : Nat) (h : LinkLaw s.link) : LinkLaw (elapse n s).link := by
  obtain ⟨_, _, _, _, _, _, _, _, _, htx, hrx, _⟩ := elapse_frame s n
  exact h.of_queues htx hrx

@[simp] theorem overcurrentStop_linkLaw (h : LinkLaw s.link) : LinkLaw (overcurrentStop s).link := by simp [overcurrentStop, h]

@[simp] theorem openLoadStop_linkLaw (h : LinkLaw s.link) : LinkLaw (openLoadStop s).link := by simp [openLoadStop, h]

@[simp] theorem expire_linkLaw (x : WindowTimer) (h : LinkLaw s.link) : LinkLaw (expire x s).link := by
  cases x
  case overcurrent => exact overcurrentStop_linkLaw h
  case openLoad => exact openLoadStop_linkLaw h
  case stall => exact stalled_linkLaw h
  all_goals simpa [expire] using h

/-- The expiries within the time that a Hall step brings keep the queues. -/
@[simp] theorem elapseTimers_linkLaw (k n : Nat) (h : LinkLaw s.link) : LinkLaw (elapseTimers k n s).link := by
  induction k generalizing n s with
  | zero => exact elapse_linkLaw n h
  | succ k ih =>
    simp only [elapseTimers]; repeat' split
    · exact ih _ (conclude_linkLaw (expire_linkLaw _ (elapse_linkLaw _ h)))
    · exact elapse_linkLaw n h
    · exact elapse_linkLaw n h

@[simp] theorem endChildPulse_linkLaw (h : LinkLaw s.link) : LinkLaw (endChildPulse s).link := by
  simp only [endChildPulse]; repeat' split
  all_goals simp [h]

@[simp] theorem childPress_linkLaw (h : LinkLaw s.link) : LinkLaw (childPress s).link := by
  simp only [childPress]; split <;> [exact h; exact place_linkLaw (s := stepSequence s) _ h]

@[simp] theorem crashEntry_linkLaw (h : LinkLaw s.link) : LinkLaw (crashEntry s).link := by
  simp only [crashEntry, setCrashHold]; split <;> simp [h]

@[simp] theorem ownCrash_linkLaw (h : LinkLaw s.link) : LinkLaw (ownCrash s).link := by simp [ownCrash, h]

@[simp] theorem takeCrash_linkLaw (n : Fin 8) (x : Byte) (h : LinkLaw s.link) : LinkLaw (takeCrash n x s).link := by
  simp only [takeCrash]; split_ifs <;> simp [h]

@[simp] theorem placeSearch_linkLaw (h : LinkLaw s.link) : LinkLaw (placeSearch s).link := by
  have hp : ∀ t f, LinkLaw (place t (onSearch f s)).1.link := fun t _ => place_linkLaw t h
  simp only [placeSearch]
  split <;> split <;> simp [hp]

@[simp] theorem startSearch_linkLaw (z : Zone) (woke : Bool) (h : LinkLaw s.link) :
    LinkLaw (startSearch z woke s).link := by
  simp only [startSearch]; split
  · exact h
  · exact placeSearch_linkLaw h

@[simp] theorem touchSearch_linkLaw (z : Zone) (woke : Bool) (h : LinkLaw s.link) : LinkLaw (touchSearch z woke s).link := by
  unfold touchSearch
  split
  · exact startSearch_linkLaw z woke h
  all_goals split <;> exact h

@[simp] theorem decideSearch_linkLaw (z : Zone) (h : LinkLaw s.link) : LinkLaw (decideSearch z s).link := by
  simp only [decideSearch]; repeat' split
  all_goals simp [h]

@[simp] theorem endCollection_linkLaw (h : LinkLaw s.link) : LinkLaw (endCollection s).link := by
  simp only [endCollection]; split <;> simp [h]

@[simp] theorem withdrawSearch_linkLaw (h : LinkLaw s.link) : LinkLaw (withdrawSearch s).link :=
  ⟨h.1.of_sublist List.filter_sublist, h.2⟩

@[simp] theorem joinSearch_linkLaw (keep : Bool) (x : Byte) (y : BitVec 6) (t : Nat) (h : LinkLaw s.link) :
    LinkLaw (joinSearch keep x y t s).link := by
  unfold joinSearch
  dsimp only
  generalize hs1 : onSearch _ s = s1
  have h1 : LinkLaw s1.link := hs1 ▸ h
  split
  · exact h1
  · split <;> simp [h1]

@[simp] theorem takeSearch_linkLaw (x : Byte) (y : BitVec 6) (t : Nat) (h : LinkLaw s.link) :
    LinkLaw (takeSearch x y t s).link := by
  unfold takeSearch
  split
  · exact joinSearch_linkLaw _ _ _ _ h
  · exact joinSearch_linkLaw _ _ _ _ (withdrawSearch_linkLaw h)
  · exact h
  · exact h

@[simp] theorem waitOver_linkLaw (h : LinkLaw s.link) : LinkLaw (waitOver s).link := by
  simp only [waitOver]; repeat' split
  all_goals simp [h]

@[simp] theorem slotOver_linkLaw (b : Bool) (h : LinkLaw s.link) : LinkLaw (slotOver b s).link := by
  unfold slotOver
  split
  · exact h
  · split
    · exact h
    · exact capture_linkLaw _ _ _ _ h

@[simp] theorem touchEvent_linkLaw (z : Zone) (woke : Bool) (h : LinkLaw s.link) : LinkLaw (touchEvent z woke s).link := by
  simp only [touchEvent]; split_ifs <;> simp [h]

@[simp] theorem afterKept_linkLaw (i : Fin 3) (e : Electrode) (h : LinkLaw s.link) :
    LinkLaw (afterKept i e s).link := by
  simp only [afterKept]; split_ifs <;> simp [h]

@[simp] theorem measure_linkLaw (i : Fin 3) (c : Nat) (h : LinkLaw s.link) : LinkLaw (measure i c s).link := by
  simp only [measure]; split
  · split
    · exact h
    · exact capture_linkLaw _ _ _ _ h
  · split
    · exact h
    · exact afterKept_linkLaw _ _ h

@[simp] theorem measurementOver_linkLaw (c : Nat) (h : LinkLaw s.link) : LinkLaw (measurementOver c s).link := by
  unfold measurementOver
  split <;> simp [h]

@[simp] theorem placeAnswer_linkLaw (k : Subtype) (r : Byte) (h : LinkLaw s.link) : LinkLaw (placeAnswer k r s).link := by
  simp [placeAnswer, h]

@[simp] theorem answerWrite_linkLaw (r : RecordName) (ok : Bool) (h : LinkLaw s.link) : LinkLaw (answerWrite r ok s).link := by
  simp only [answerWrite]; repeat' split
  all_goals simp [h]

@[simp] theorem endWrite_linkLaw (ok : Bool) (h : LinkLaw s.link) : LinkLaw (endWrite ok s).link := by
  simp only [endWrite]; repeat' split
  all_goals simp [h]

@[simp] theorem applyService_linkLaw (k : Subtype) (args : List Byte) (h : LinkLaw s.link) :
    LinkLaw (applyService k args s).link := by
  cases k
  case option => simp only [applyService, applyOption]; split <;> simp [h]
  all_goals simp [applyService, applyEnrol, applyClearfault, applyForget, h]

@[simp] theorem takeService_linkLaw (k : Subtype) (t : Byte) (args : List Byte) (h : LinkLaw s.link) :
    LinkLaw (takeService k t args s).link := by
  simp only [takeService]; split_ifs <;> simp [h]

@[simp] theorem frameComplete_linkLaw (p : List Byte) (h : LinkLaw s.link) : LinkLaw (frameComplete p s).link := by
  simp only [frameComplete]; split <;> simp [h]

@[simp] theorem assemble_linkLaw (v : Byte) (e : Bool) (h : LinkLaw s.link) : LinkLaw (assemble v e s).link := by
  simp only [assemble]
  split
  · exact h
  · split
    · exact h
    · exact h
    · exact frameComplete_linkLaw _ h

@[simp] theorem rfByte_linkLaw (v : Byte) (e : Bool) (h : LinkLaw s.link) : LinkLaw (rfByte v e s).link := by
  unfold rfByte
  split
  · split <;> simp [h]
  · exact assemble_linkLaw v e h
  · exact h

/-! ## The link's own rows -/

@[simp] theorem heard_tx (l : Link) : (heard l).tx = l.tx := by unfold heard; split <;> rfl
@[simp] theorem heard_rx (l : Link) : (heard l).rx = l.rx := by unfold heard; split <;> rfl

@[simp] theorem endAttempted_tx (slots : Byte) (l : Link) : (endAttempted slots l).tx = l.tx := by
  unfold endAttempted; split <;> rfl
@[simp] theorem endAttempted_rx (slots : Byte) (l : Link) : (endAttempted slots l).rx = l.rx := by
  unfold endAttempted; split <;> rfl

@[simp] theorem lineRead_tx (n : Nat) (l : Link) : (lineRead n l).tx = l.tx := by
  unfold lineRead; split_ifs <;> rfl
@[simp] theorem lineRead_rx (n : Nat) (l : Link) : (lineRead n l).rx = l.rx := by
  unfold lineRead; split_ifs <;> rfl

@[simp] theorem abortLine_tx (c : AbortCause) (l : Link) : (abortLine c l).tx = l.tx := by cases c <;> rfl
@[simp] theorem abortLine_rx (c : AbortCause) (l : Link) : (abortLine c l).rx = l.rx := by cases c <;> rfl

@[simp] theorem endAttempt_linkLaw (slots : Byte) (c : Bool) (h : LinkLaw s.link) :
    LinkLaw (endAttempt slots c s).link := by
  unfold endAttempt
  split
  · exact h
  · dsimp only
    rw [deliverOutcome_link]
    generalize hmissing : (expectedAckers _ s &&& _) = missing
    have hq : LinkLaw
        { s.link with tx := s.link.tx.flatMap fun x =>
            if x.inAttempt then entryAfter (!c && missing == 0) missing x else [x] } :=
      ⟨h.1.afterAttempt _ missing, h.2⟩
    split
    · exact captureAwake_linkLaw _ _ _ _ hq
    · exact hq

/-- A reception fills a place of the receive queue only where it has one (R17). -/
theorem linkReceived_linkLaw (f : LineFrame) (h : LinkLaw s.link) : LinkLaw (linkReceived s f s.link) := by
  refine ⟨by simpa [linkReceived, endField] using h.1, ?_⟩
  have hroom : slotDriven s f (slotBits (ownNumber s)) = true → s.link.rx.length < 4 := by
    simp only [slotDriven, Config.rxCapacity, Bool.and_eq_true]
    exact fun hd => of_decide_eq_true hd.2
  simp only [linkReceived, heard_rx]
  split
  · simpa using hroom ‹_›
  · exact h.2

/-- A taking shortens the receive queue (R17). -/
theorem popRx_linkLaw (h : LinkLaw s.link) : LinkLaw (popRx s).link := by
  rw [popRx_link, linkTaken_frame]
  exact ⟨h.1, by simpa using h.2.trans (by omega)⟩

/-- The entry to STUCK empties the transmit queue (R22). -/
theorem enterStuck_linkLaw (h : LinkLaw s.link) : LinkLaw (enterStuck s).link := by
  have hfold : ∀ (es : List TxEntry) (u : State), (es.foldl dropEntry u).link = u.link := by
    intro es
    induction es with
    | nil => exact fun _ => rfl
    | cons e es ih => exact fun u => (ih _).trans (dropEntry_link u e)
  exact capture_linkLaw _ _ _ _ (by rw [hfold]; exact ⟨txLaw_nil, h.2⟩)

/-- A station that starts has its first STATE in its queue, or nothing (R26). -/
theorem start_linkLaw (i : PowerOnInputs) : LinkLaw (start i s).link := by
  have hboot : LinkLaw (bootDoor (bootBlocks i s.pending (tornStore s))).link := by
    rw [bootDoor_link]
    exact ⟨txLaw_nil, Nat.zero_le _⟩
  simp only [start]
  split
  · exact hboot
  · exact placeState_linkLaw hboot

/-! ## Every command -/

/-- The outcome of a command leaves queues that keep their laws. -/
def KeepsQueues (o : Host.Outcome State Fault Refusal) : Prop := ∀ t, o = .next t → LinkLaw t.link

theorem goOn_keepsQueues (h : LinkLaw s.link) : KeepsQueues (goOn s) := by
  rintro _ ⟨⟩
  exact h

/-- An event keeps the queues where its effect does. -/
theorem event_keepsQueues (c : Bool) (f : State → State) (h : LinkLaw s.link) (hf : LinkLaw (f s).link) :
    KeepsQueues (event c f s) := by
  cases c
  · exact goOn_keepsQueues h
  · exact goOn_keepsQueues (conclude_linkLaw hf)

/-- A taking keeps the queues where its block's part does. -/
theorem taking_keepsQueues (row : Instr) (f : Message → Nat → State → State) (h : LinkLaw s.link)
    (hf : ∀ m n u, LinkLaw u.link → LinkLaw (f m n u).link) : KeepsQueues (taking row f s) := by
  unfold taking
  split
  · exact event_keepsQueues _ _ h (hf _ _ _ (popRx_linkLaw h))
  · exact goOn_keepsQueues h

/-- The owners of telegrams leave the queues alone, or place a telegram. -/
theorem owners_linkLaw (m : Message) (n : Nat) (u : State) (h : LinkLaw u.link) :
    ∀ f ∈ [onCentral, onChild, onWindowreq, onService, onFobreport, onEvidence, onState, onVehicle,
      onPinchTelegram, onSearchTelegram, onCrash], LinkLaw (f m n u).link := by
  cases m <;>
    simp [onCentral, onChild, onWindowreq, onService, onFobreport, onEvidence, onState, onVehicle,
      onPinchTelegram, peerPinch, onSearchTelegram, onCrash, h]

/-- Every row under which a telegram is taken keeps the queues. -/
theorem takenRow_keepsQueues (row : Instr) (f : Message → Nat → State → State) (h : LinkLaw s.link)
    (hf : f ∈ [onCentral, onChild, onWindowreq, onService, onFobreport, onEvidence, onState, onVehicle,
      onPinchTelegram, onSearchTelegram, onCrash]) : KeepsQueues (taking row f s) :=
  taking_keepsQueues row f h fun m n u hu => owners_linkLaw m n u hu f hf

/-- Every command keeps the queues. -/
theorem exec_keepsQueues (c : Instr) (h : LinkLaw s.link) : KeepsQueues (exec c s) := by
  cases c <;> dsimp only [exec]
  case powerOn i => exact goOn_keepsQueues (conclude_linkLaw (start_linkLaw i))
  case supplyComparatorChange b => exact goOn_keepsQueues h
  case brownOut => exact event_keepsQueues _ _ h ⟨txLaw_nil, Nat.zero_le _⟩
  case attemptStart n =>
    refine event_keepsQueues _ _ h ?_
    dsimp only
    split
    · exact ⟨by simpa using h.1.startHead, by simpa using h.2⟩
    · exact h.of_queues (lineRead_tx n _) (lineRead_rx n _)
  case arbitrationLoss =>
    exact event_keepsQueues _ _ h ⟨h.1.map _
      (fun e he => by split <;> [exact (refreshed_kind e (h.1.waiting e he)).1; rfl])
      (fun e he => by
        split <;> [exact (refreshed_kind e (h.1.waiting e he)).2; exact h.1.waiting e he]), h.2⟩
  case collision => exact event_keepsQueues _ _ h (endAttempt_linkLaw _ _ h)
  case attemptEnd slots =>
    refine event_keepsQueues _ _ h (endAttempt_linkLaw _ _ ?_)
    split <;> exact h.of_queues (by simp) (by simp)
  case telegramReceived f => exact event_keepsQueues _ _ h (linkReceived_linkLaw f h)
  case abort cause => exact event_keepsQueues _ _ h (h.of_queues (abortLine_tx cause _) (abortLine_rx cause _))
  case isolationTimeout => exact event_keepsQueues _ _ h (capture_linkLaw _ _ _ _ h)
  case lineStuck => exact event_keepsQueues _ _ h (enterStuck_linkLaw h)
  case dispatchDiscard => exact taking_keepsQueues _ _ h fun _ _ _ hu => hu
  case stateTaken | vehicleTaken | faultTaken | serviceackTaken | lockreqLock | lockreqDeadlock
      | lockreqUnlock | lockreqChildOn | lockreqChildOff | windowreqManualUp | windowreqManualDown
      | windowreqAutoUp | windowreqAutoDown | windowreqStop | pinchTaken | searchTaken | crashTaken
      | serviceEnrol | serviceOption | serviceClearfault | serviceForgetWindow | fobLock | fobUnlock
      | fobTailgate | fobCloseAll | fobOpenAll | fobSearchReply =>
    exact takenRow_keepsQueues _ _ h (by simp)
  case latchOvercurrent =>
    refine event_keepsQueues _ _ h ?_
    split
    · exact h
    · exact capture_linkLaw _ _ _ _ h
  case insideHandlePull | centralLockButton | centralUnlockButton | keyLockTurn | keyUnlockTurn
      | childSwitchChange | childButtonPress | windowSwitchChange =>
    refine event_keepsQueues _ _ h ?_
    have hi := fun i => inputChange_linkLaw i h
    dsimp only
    split
    all_goals simp [hi]
  case packRefreshExpiry k =>
    refine event_keepsQueues _ _ h ?_
    split
    · exact placeWindowreq_linkLaw _ _ h
    · exact h
  case motorCurrentChange motor band =>
    refine event_keepsQueues _ _ h ?_
    split
    · exact h
    · split <;> exact h
  case stuckRelease | settleExpiry | plainCheckError => exact event_keepsQueues _ _ h h
  all_goals exact event_keepsQueues _ _ h (by simp [h])

/-- A step on an empty queue keeps the two queues. -/
theorem idleStep_linkLaw (h : LinkLaw s.link) : LinkLaw (idleStep s).link := by
  unfold idleStep
  split
  · exact h
  · split
    · exact h
    · exact elapse_linkLaw Config.tick h

end Sys2Proof.Machine

/-- Settles O9: the laws are those of the link (`LinkLaw`), and each command keeps them. -/
theorem queueLawKept : Obligations.QueueLawKept := by
  intro s t h hs
  rw [queueLaw_iff] at h ⊢
  unfold step at hs
  split at hs
  · rename_i c rest _
    exact exec_keepsQueues (s := { s with pending := rest }) c h t hs
  · cases hs
    exact idleStep_linkLaw h

end

section
/-! SUPPORT. The end of every event: what a report of the STATE, the judgement of readiness and a capture can
change (R15, R34, R178, R179, R181). -/

open Sys2Proof Sys2Proof.Machine Sys2Proof.Safety Sys2Proof.Claims

namespace Sys2Proof.Machine

/-! ## What a placement leaves as it is -/

/-- A placement changes the transmit queue and nothing else of the link. -/
theorem enqueue_tx (t : Telegram) (l : Link) : (enqueue t l).1 = { l with tx := (enqueue t l).1.tx } := by
  rcases enqueue_cases t l with ⟨_, he⟩ | ⟨_, _, he⟩ | ⟨_, _, _, he⟩ | ⟨_, _, _, he⟩ <;> rw [he]

/-- `s` with what the ending of an event can change taken from `t`: the transmit queue, the last placed STATE
and its period timer, the fault record, and the sleep entry. -/
def endedAs (s t : State) : State :=
  { s with
    link := { s.link with tx := t.link.tx }
    roster := { s.roster with lastPlaced := t.roster.lastPlaced, period := t.roster.period }
    faults := t.faults
    power :=
      { s.power with
        entry := t.power.entry, settle := t.power.settle, flagSent := t.power.flagSent
        sleepingFlag := t.power.sleepingFlag } }

theorem endedAs_trans {s t u : State} (ht : t = endedAs s t) (hu : u = endedAs t u) : u = endedAs s u :=
  calc
    u = endedAs t u := hu
    _ = endedAs (endedAs s t) u := by rw [← ht]
    _ = endedAs s u := rfl

theorem placeFault_endedAs (s : State) : placeFault s = endedAs s (placeFault s) := by
  unfold placeFault
  split
  · rfl
  · rename_i r _
    have hl := enqueue_tx (ownTelegram s kFault (faultPayload r)) s.link
    split <;> (rename_i he; rw [he] at hl; dsimp only at hl; rw [hl]; rfl)

theorem captureAwake_endedAs (k : FaultKind) (a b c : Byte) (s : State) :
    captureAwake k a b c s = endedAs s (captureAwake k a b c s) := by
  simp only [captureAwake]
  split
  · exact endedAs_trans (t := { s with faults := _ }) rfl (placeFault_endedAs _)
  · rfl

theorem place_endedAs (t : Telegram) (s : State) : (place t s).1 = endedAs s (place t s).1 := by
  have hl := enqueue_tx t s.link
  unfold place
  split <;> (rename_i he; rw [he] at hl; dsimp only at hl)
  · exact endedAs_trans (t := { s with link := _ }) (by rw [hl]; rfl) (captureAwake_endedAs _ _ _ _ _)
  · rw [hl]; rfl

theorem placeState_endedAs (s : State) : placeState s = endedAs s (placeState s) :=
  endedAs_trans (t := { s with roster := { s.roster with
    lastPlaced := some (ownState s), period := if s.power.entry = .settling then none else some 0 } }) rfl
    (place_endedAs _ _)

theorem reportChanges_endedAs (s : State) : reportChanges s = endedAs s (reportChanges s) := by
  have hone : ∀ u, reportOnce u = endedAs u (reportOnce u) := by
    intro u
    unfold reportOnce
    split
    · exact placeState_endedAs u
    · rfl
  exact endedAs_trans (hone s) (hone _)

theorem judgeSleep_endedAs (s : State) : judgeSleep s = endedAs s (judgeSleep s) := by
  unfold judgeSleep; split_ifs <;> rfl

/-- The frame of the ending that every event has (R34, R178, R179). -/
theorem conclude_endedAs (s : State) : conclude s = endedAs s (conclude s) := by
  unfold conclude
  split
  · exact endedAs_trans (endedAs_trans (reportChanges_endedAs s) (judgeSleep_endedAs _)) (reportChanges_endedAs _)
  · rfl

/-! ## A report that is not refused leaves the fault record -/

/-- The transmit queue has a place for a STATE: a free one, or that of a queued STATE (R12, R13). -/
def hasPlace (l : Link) : Prop := l.tx.length < 6 ∨ ∃ e ∈ l.tx, e.telegram.kind = 8

/-- A STATE finds its place, and that place is there for the next one. -/
theorem enqueue_state_of_hasPlace (t : Telegram) (l : Link) (hk : t.kind = 8) (h : hasPlace l) :
    (enqueue t l).2 ≠ .refused ∧ hasPlace (enqueue t l).1 := by
  have hover : ∀ e : TxEntry, takesOver t e ↔ e.telegram.kind = 8 := by simp [takesOver, hk]
  rcases enqueue_cases t l with ⟨_, he⟩ | ⟨_, ⟨e, hel, het⟩, he⟩ | ⟨_, hno, hfull, _⟩ | ⟨_, _, _, he⟩
  · rw [he]
    exact ⟨nofun, h⟩
  · rw [he]
    refine ⟨nofun, .inr ⟨replaceEntry t e, List.mem_map_of_mem hel, ?_⟩⟩
    rw [replaceEntry_kind]
    exact (hover e).mp het
  · rcases h with h | ⟨e, hel, hek⟩
    · omega
    · exact absurd ((hover e).mpr hek) (hno e hel)
  · rw [he]
    exact ⟨nofun, .inr ⟨freshEntry t, (mem_insertEntry _ _ _).mpr (.inl rfl), hk⟩⟩

/-- A placement that is not refused changes the link alone (R15). -/
theorem place_of_not_refused (t : Telegram) (s : State) (h : (enqueue t s.link).2 ≠ .refused) :
    (place t s).1 = { s with link := (enqueue t s.link).1 } := by
  unfold place
  split <;> (rename_i he; rw [he] at h ⊢)
  exact absurd rfl h

theorem placeState_of_hasPlace (s : State) (h : hasPlace s.link) :
    (placeState s).faults = s.faults ∧ hasPlace (placeState s).link := by
  obtain ⟨hr, hl⟩ := enqueue_state_of_hasPlace (ownTelegram s kState (encodeState (ownState s))) s.link rfl h
  have hp := place_of_not_refused (ownTelegram s kState (encodeState (ownState s)))
    { s with roster := { s.roster with
      lastPlaced := some (ownState s), period := if s.power.entry = .settling then none else some 0 } } hr
  exact ⟨congrArg (·.faults) hp, (congrArg (·.link) hp).symm ▸ hl⟩

theorem reportChanges_of_hasPlace (s : State) (h : hasPlace s.link) :
    (reportChanges s).faults = s.faults ∧ hasPlace (reportChanges s).link := by
  have hone : ∀ u, hasPlace u.link → (reportOnce u).faults = u.faults ∧ hasPlace (reportOnce u).link := by
    intro u hu
    unfold reportOnce
    split
    · exact placeState_of_hasPlace u hu
    · exact ⟨rfl, hu⟩
  obtain ⟨hf, hl⟩ := hone s h
  obtain ⟨hf', hl'⟩ := hone _ hl
  exact ⟨hf'.trans hf, hl'⟩

/-- An ending whose STATE is not refused leaves the fault record (R15). -/
theorem conclude_faults_of_hasPlace (s : State) (h : hasPlace s.link) : (conclude s).faults = s.faults := by
  unfold conclude
  split
  · obtain ⟨hf, hl⟩ := reportChanges_of_hasPlace s h
    obtain ⟨hf', _⟩ := reportChanges_of_hasPlace (judgeSleep (reportChanges s)) (by rwa [judgeSleep_link])
    rw [hf', judgeSleep_faults, hf]
  · rfl

/-- A field of STATE other than the window percent differs from the last placed one (R34). -/
theorem fieldsChanged_iff (s : State) :
    fieldsChanged s = true ↔
      (s.roster.lastPlaced.map fun c => { c with percent := 0 }) ≠ some { ownState s with percent := 0 } :=
  bne_iff_ne

/-- The report of the statements is the model's. -/
theorem reported_eq (s : State) : reported s = reportOnce s := by
  simp only [reported, reportOnce, Bool.and_eq_true, fieldsChanged_iff]

/-! ## Fault capture (R181) -/

theorem woken_eq (s : State) : woken s = wakeBlocks s := rfl

/-- A capture at a station that sleeps wakes it first, and its wake STATE is placed before (R180, R181). -/
theorem capture_of_asleep (k : FaultKind) (a b c : Byte) (s : State) (h : s.power.asleep = true) :
    capture k a b c s = captureAwake k a b c (placeState (woken s)) := by
  simp [capture, wake, h, woken_eq]

/-- A capture at a station with valid straps places a FAULT where its record asks for one (R181). -/
theorem captureAwake_eq (k : FaultKind) (a b c : Byte) (s : State) (h : configFault s = false) :
    captureAwake k a b c s =
      let r := captureRecord (timeCount s) k a b c s.faults
      if r.2 = true then placeFault { s with faults := r.1 } else { s with faults := r.1 } := by
  have h' : ∀ f, configFault { s with faults := f } = false := fun _ => h
  simp [captureAwake, h']

/-- A capture with a held record raises its more count, and asks for a FAULT where the count has changed and the
capture is not the link's own report of a FAULT (R181). -/
theorem captureRecord_of_some (time : Nat) (k : FaultKind) (a b c : Byte) (f : Faults) (r : FaultRecord)
    (hr : f.record = some r) :
    captureRecord time k a b c f =
      ({ record := some { r with more := min 15 (r.more + 1) },
         summary := f.summary ||| BitVec.twoPow 16 (faultCode k) },
        decide (r.more < 15 ∧ ¬ ((k = .busNoack ∨ k = .txOverflow) ∧ a = 9))) := by
  simp only [captureRecord, hr, faultFlag, Prod.mk.injEq, true_and]
  rw [Bool.eq_iff_iff]
  simp

/-- A FAULT that the link takes (R181). -/
theorem placeFault_of_taken (s : State) (r : FaultRecord) (l : Link) (hr : s.faults.record = some r)
    (he : enqueue (ownTelegram s kFault (faultPayload r)) s.link = (l, .taken)) :
    placeFault s = { s with link := l } := by
  simp [placeFault, hr, he]

/-- A FAULT that is dropped leaves nothing (R22). -/
theorem placeFault_of_dropped (s : State) (r : FaultRecord) (l : Link) (hr : s.faults.record = some r)
    (he : enqueue (ownTelegram s kFault (faultPayload r)) s.link = (l, .dropped)) : placeFault s = s := by
  obtain rfl := link_of_not_taken _ _ _ _ he (by decide)
  simp [placeFault, hr, he]

/-- A refused FAULT is captured in its turn, without a further FAULT (R15, R181). -/
theorem placeFault_of_refused (s : State) (r : FaultRecord) (l : Link) (hr : s.faults.record = some r)
    (he : enqueue (ownTelegram s kFault (faultPayload r)) s.link = (l, .refused)) :
    placeFault s =
      { s with faults :=
        { record := some { r with more := min 15 (r.more + 1) }, summary := s.faults.summary ||| 0x10 } } := by
  obtain rfl := link_of_not_taken _ _ _ _ he (by decide)
  simp only [placeFault, hr, he, captureRecord]
  rfl

end Sys2Proof.Machine

/-- Settles O5: the ending is a chain of reports around the judgement of readiness, each within `endedAs`. -/
theorem concludeFrame : Obligations.ConcludeFrame := by
  intro s
  refine ⟨fun h => ?_, fun h => conclude_of_held s h, conclude_endedAs s, conclude_faults_of_hasPlace s⟩
  simp only [reported_eq]
  simp [conclude, h, reportChanges]

/-- Settles O20: an empty record and a held one, and what the link makes of the FAULT. -/
theorem captureRule : Obligations.CaptureRule := by
  refine ⟨fun k a b c s => ⟨capture_of_awake s k a b c, capture_of_asleep k a b c s⟩, fun k a b c s hc => ?_⟩
  refine ⟨fun hr => ?_, fun r hr => ⟨?_, ?_, ?_⟩, fun r l hr => ⟨?_, ?_, ?_⟩⟩
  · simp [captureAwake_eq k a b c s hc, captureRecord, hr, timeCount, faultFlag]
  · intro hm hk
    have hmin : min 15 (r.more + 1) = r.more + 1 := by omega
    rw [captureAwake_eq k a b c s hc, captureRecord_of_some _ k a b c _ r hr, hmin]
    exact if_pos (decide_eq_true ⟨hm, hk⟩)
  · intro hm hk ha
    have hmin : min 15 (r.more + 1) = r.more + 1 := by omega
    rw [captureAwake_eq k a b c s hc, captureRecord_of_some _ k a b c _ r hr, hmin]
    exact if_neg (by simp [hk, ha])
  · intro hm
    have hmin : min 15 (r.more + 1) = 15 := by omega
    rw [captureAwake_eq k a b c s hc, captureRecord_of_some _ k a b c _ r hr, hmin]
    exact if_neg (by simp [Nat.not_lt.mpr hm])
  · exact placeFault_of_taken s r l hr
  · exact placeFault_of_dropped s r l hr
  · exact placeFault_of_refused s r l hr

end

section
/-! SUPPORT. The receive queue's head (R17, R18), and what a station held in reset or with invalid straps leaves
alone (R27, R177). -/

open Sys2Proof Sys2Proof.Machine Sys2Proof.Safety Sys2Proof.Claims

namespace Sys2Proof.Machine

/-! ## The head of the receive queue -/

/-- The taking of the statements is the model's: a slot lies at most 240 µs before the end (R8, R17). -/
theorem popped_eq (s : State) (h : s.link.rx ≠ []) : popped s = popRx s := by
  obtain ⟨e, rest, he⟩ := List.exists_cons_of_ne_nil h
  simp only [popped, popRx, linkTaken, he]
  rfl

/-- Where the dispatcher reads `m`, the row of `m` runs its meaning on the state with the telegram taken (R18). -/
theorem taking_of_takes {s : State} {m : Message} {t : Nat} {row : Instr} (f : Message → Nat → State → State)
    (h : takes s m t) (hr : takingOf m = row) : taking row f s = .next (conclude (f m t (popped s))) := by
  obtain ⟨hrun, hawake, e, rest, hrx, rfl, hm⟩ := h
  rw [popped_eq s (by simp [hrx])]
  exact taking_of_head s f (by simp [headMessage, hrx, hm, ownNumber]) hr (by simp [reading, hrun, hawake])

/-- With invalid straps the dispatcher discards every telegram (R27). -/
theorem headMessage_of_configFault (s : State) (h : configFault s = true) :
    headMessage s = s.link.rx.head?.map fun e => (.discarded, e.endInstant) := by
  unfold headMessage
  cases s.link.rx <;> simp [h]

/-! ## Stations that do not act -/

theorem running_iff (s : State) : running s = true ↔ s.supply.heldInReset = false := by simp [running]

theorem configFault_iff (s : State) : configFault s = true ↔ strapsValid s.straps = false := by simp [configFault]

theorem operating_iff (s : State) : operating s = true ↔ running s = true ∧ configFault s = false := by
  simp [operating]

theorem hasWindow_iff (s : State) : hasWindow s = true ↔ operating s = true ∧ s.straps.position ≠ 4 := by
  simp [hasWindow, isTailgate, ownNumber]

/-- A station held in reset reads nothing, and does not operate (R177). -/
theorem idle_of_held (s : State) (h : running s = false) :
    operating s = false ∧ active s = false ∧ reading s = false ∧ hasWindow s = false := by
  simp [operating, active, reading, hasWindow, h]

/-- A station with invalid straps does not operate (R27). -/
theorem idle_of_configFault (s : State) (h : configFault s = true) :
    operating s = false ∧ active s = false ∧ hasWindow s = false := by
  simp [operating, active, hasWindow, h]

/-- A taking at a station that does not read changes nothing. -/
theorem taking_of_not_reading (s : State) (row : Instr) (f : Message → Nat → State → State)
    (h : reading s = false) : taking row f s = .next s := by
  unfold taking
  split
  · refine event_of_false s _ ?_
    unfold reading at h
    simp [h]
  · rfl

/-- A taking under a row other than DISPATCH_DISCARD changes nothing where every telegram is discarded (R27). -/
theorem taking_of_configFault (s : State) (row : Instr) (f : Message → Nat → State → State)
    (h : configFault s = true) (hrow : row ≠ .dispatchDiscard) : taking row f s = .next s := by
  unfold taking
  rw [headMessage_of_configFault s h]
  cases s.link.rx with
  | nil => rfl
  | cons e rest =>
    refine event_of_false s _ ?_
    simp [takingOf, hrow.symm]

/-- A station held in reset acts on nothing but its POWER_ON and its comparator (R177). -/
theorem exec_of_held (c : Instr) (s : State) (h : running s = false) (hp : ∀ i, c ≠ .powerOn i)
    (hc : ∀ b, c ≠ .supplyComparatorChange b) : exec c s = .next s := by
  obtain ⟨hop, hact, hread, hwin⟩ := idle_of_held s h
  cases c <;> dsimp only [exec]
  case powerOn i => exact absurd rfl (hp i)
  case supplyComparatorChange b => exact absurd rfl (hc b)
  case dispatchDiscard | stateTaken | vehicleTaken | faultTaken | serviceackTaken | lockreqLock
      | lockreqDeadlock | lockreqUnlock | lockreqChildOn | lockreqChildOff | windowreqManualUp
      | windowreqManualDown | windowreqAutoUp | windowreqAutoDown | windowreqStop | pinchTaken
      | searchTaken | crashTaken | serviceEnrol | serviceOption | serviceClearfault
      | serviceForgetWindow | fobLock | fobUnlock | fobTailgate | fobCloseAll | fobOpenAll
      | fobSearchReply => exact taking_of_not_reading s _ _ hread
  all_goals exact event_of_false s _ (by simp [h, hop, hact, hread, hwin])

/-- At a station with invalid straps a command acts only if R27 names it. -/
theorem exec_of_configFault (c : Instr) (s : State) (h : configFault s = true)
    (hc : actsWithInvalidStraps c = false) : exec c s = .next s := by
  obtain ⟨hop, hact, hwin⟩ := idle_of_configFault s h
  cases c <;> dsimp only [exec]
  case powerOn | supplyComparatorChange | brownOut | supplySample | telegramReceived | abort
      | plainCheckError | attemptStart | isolationTimeout | lineStuck | stuckRelease | dispatchDiscard
      | childSwitchChange => cases hc
  case stateTaken | vehicleTaken | faultTaken | serviceackTaken | lockreqLock
      | lockreqDeadlock | lockreqUnlock | lockreqChildOn | lockreqChildOff | windowreqManualUp
      | windowreqManualDown | windowreqAutoUp | windowreqAutoDown | windowreqStop | pinchTaken
      | searchTaken | crashTaken | serviceEnrol | serviceOption | serviceClearfault
      | serviceForgetWindow | fobLock | fobUnlock | fobTailgate | fobCloseAll | fobOpenAll
      | fobSearchReply => exact taking_of_configFault s _ _ h (by decide)
  all_goals exact event_of_false s _ (by simp [hop, hact, hwin])

/-- With invalid straps a queued telegram leaves the receive queue, and nothing else (R27). -/
theorem dispatchDiscard_of_configFault (s : State) (h : configFault s = true) (hr : running s = true)
    (ha : s.power.asleep = false) (hrx : s.link.rx ≠ []) :
    exec .dispatchDiscard s = .next (conclude (popped s)) := by
  obtain ⟨e, rest, he⟩ := List.exists_cons_of_ne_nil hrx
  have htakes : takes s .discarded e.endInstant := ⟨hr, ha, e, rest, he, rfl, by simp [h]⟩
  exact taking_of_takes (row := .dispatchDiscard) (fun _ _ u => u) htakes rfl

end Sys2Proof.Machine

/-- Settles O12: no condition of an event holds at such a station but those of the commands named. -/
theorem stationsThatDoNotAct : Obligations.StationsThatDoNotAct :=
  ⟨fun s => ⟨running_iff s, configFault_iff s, operating_iff s, by simp [active], hasWindow_iff s⟩,
    exec_of_held,
    fun c s h => ⟨exec_of_configFault c s h, dispatchDiscard_of_configFault s h⟩⟩

end

section
/-! SUPPORT. The bits of a telegram and its check field (R2, R3, R7). -/

open Sys2Proof Sys2Proof.Machine Sys2Proof.Safety Sys2Proof.Claims

namespace Sys2Proof.Machine

@[simp] theorem bitsMsb_length {w : Nat} (x : BitVec w) : (bitsMsb x).length = w := by simp [bitsMsb]

/-- Bit `i` of a word on the line is bit `w - 1 - i` of the word (R2). -/
theorem bitsMsb_getElem? {w : Nat} (x : BitVec w) (i : Nat) (h : i < w) :
    (bitsMsb x)[i]? = some (x.getLsbD (w - 1 - i)) := by
  simp [bitsMsb, h]

/-- One more bit in the check register (R3). -/
theorem crc8_append_bit (bits : List Bool) (b : Bool) :
    crc8 (bits ++ [b]) = if (crc8 bits).msb = b then crc8 bits <<< 1 else (crc8 bits <<< 1) ^^^ 0x1D := by
  rw [crc8, List.foldl_append]
  exact if_congr beq_iff_eq rfl rfl

/-- The check covers 11 bits and the payload's (R3). -/
theorem coveredBits_length (f : LineFrame) : (coveredBits f).length = 11 + 8 * f.payload.length := by
  simp [coveredBits, List.length_flatMap]
  omega

theorem checkPass_iff (f : LineFrame) :
    checkPass f = true ↔ f.payload.length = f.length.toNat ∧ crc8 (coveredBits f) = f.check := by
  simp [checkPass]

/-- Bits end in ten recessive ones where the last ten read are recessive (R7). -/
theorem take_reverse_eq_replicate_iff (bits : List Bool) (n : Nat) :
    bits.reverse.take n = List.replicate n true ↔ ∃ read, bits = read ++ List.replicate n true := by
  constructor
  · intro h
    refine ⟨(bits.reverse.drop n).reverse, ?_⟩
    calc
      bits = (bits.reverse.take n ++ bits.reverse.drop n).reverse := by simp
      _ = (bits.reverse.drop n).reverse ++ List.replicate n true := by rw [h, List.reverse_append, List.reverse_replicate]
  · rintro ⟨read, rfl⟩
    simp

/-- A telegram cut short (R7). -/
theorem cutShort_iff (f : LineFrame) :
    cutShort f = true ↔
      checkPass f = false ∧ ∃ read, coveredBits f ++ bitsMsb f.check = read ++ List.replicate 10 true := by
  rw [← take_reverse_eq_replicate_iff]
  simp [cutShort, readBits]

/-- The frame that a sender drives carries the check of its own bits (R3). -/
theorem telegramFrame_check (t : Telegram) :
    (telegramFrame t).check = crc8 (coveredBits (telegramFrame t)) := by
  simp only [telegramFrame, coveredBits]

/-- The frame that a sender drives passes the receiver's comparison (R3). -/
theorem checkPass_telegramFrame (t : Telegram) (h : t.payload.length ≤ 15) : checkPass (telegramFrame t) = true := by
  refine (checkPass_iff _).mpr ⟨?_, (telegramFrame_check t).symm⟩
  simp only [telegramFrame, BitVec.toNat_ofNat]
  omega

end Sys2Proof.Machine

/-- Settles O15: the check register steps bit by bit, and the frame that a sender drives carries its result. -/
theorem checkField : Obligations.CheckField :=
  ⟨fun _ x => ⟨bitsMsb_length x, bitsMsb_getElem? x⟩, cutShort_iff, rfl, crc8_append_bit,
    fun f => ⟨rfl, coveredBits_length f, checkPass_iff f⟩,
    fun t h => ⟨rfl, rfl, telegramFrame_check t, checkPass_telegramFrame t h⟩⟩

end

section
/-! SUPPORT. Evidence and the taken telegrams (R18, R29, R32, R41, R63, R83, R92, R103, R138, R157). -/

open Sys2Proof Sys2Proof.Machine Sys2Proof.Safety Sys2Proof.Claims

namespace Sys2Proof.Machine

/-! ## Evidence -/

/-- The nodes shown after a change of one peer record: as before, but for that node. -/
theorem shownNodes_setPeer_iff (n : Fin 8) (p : Peer) (s : State) :
    shownNodes (setPeer n p s) = shownNodes s ↔
      (p.presence = .present ∨ p.presence = .asleep ↔
        (s.roster.peers[n]).presence = .present ∨ (s.roster.peers[n]).presence = .asleep) := by
  change _ ↔ (_ ↔ (peer s n).presence = .present ∨ (peer s n).presence = .asleep)
  have hbit : ∀ (u : State) (k : Fin 8), (shownNodes u).getLsbD k.val =
      ((peer u k).presence == .present || (peer u k).presence == .asleep) := fun u k => nodeSet_getLsbD _ k
  have hpeer : ∀ k : Fin 8, peer (setPeer n p s) k = if n = k then p else peer s k := by
    intro k
    simp [peer, setPeer, Vector.getElem_set, Fin.ext_iff]
  constructor
  · intro h
    have hn := congrArg (·.getLsbD n.val) h
    simp only [hbit, hpeer, if_true] at hn
    simpa only [Bool.or_eq_true, beq_iff_eq] using Bool.eq_iff_iff.mp hn
  · intro h
    refine BitVec.eq_of_getLsbD_eq fun i hi => ?_
    have hk := hbit (setPeer n p s) ⟨i, hi⟩
    have hk' := hbit s ⟨i, hi⟩
    dsimp only at hk hk'
    rw [hk, hk', hpeer]
    split
    · rename_i hni
      subst hni
      exact Bool.eq_iff_iff.mpr (by simpa only [Bool.or_eq_true, beq_iff_eq] using h)
    · rfl

/-- The change of a presence is that of the statements (R9). -/
theorem onPresence_eq_changed (n : Fin 8) (f : Peer → Peer) (s : State) :
    onPresence n f s = changed n (f (peer s n)) s := by
  have hiff := shownNodes_setPeer_iff n (f (peer s n)) s
  simp only [onPresence, changed]
  by_cases h : shownNodes (setPeer n (f (peer s n)) s) = shownNodes s
  · rw [if_pos (hiff.mp h)]
    exact if_pos h
  · rw [if_neg (mt hiff.mpr h)]
    exact if_neg h

/-- Evidence that changes no door of a peer is the drive-away test alone at lock logic (R32, R75). -/
theorem peerChange_not_opened (n : Fin 8) (s : State) : peerChange n false s = driveAwayTest s := by
  simp [peerChange]

/-- Evidence of a node that was PRESENT (R29). -/
theorem evidence_of_present (n : Fin 8) (s : State) (h : (s.roster.peers[n]).presence = .present) :
    evidence n s = changed n { s.roster.peers[n] with presence := .present, age := 0 } s := by
  have h' : (peer s n).presence = .present := h
  rw [evidence, if_pos h', onPresence_eq_changed]
  rfl

/-- Evidence of a node that was not PRESENT is a peer change at lock logic (R29, R32). -/
theorem evidence_of_not_present (n : Fin 8) (s : State) (h : (s.roster.peers[n]).presence ≠ .present) :
    evidence n s =
      driveAwayTest (changed n { s.roster.peers[n] with presence := .present, age := 0 } s) := by
  have h' : ¬ (peer s n).presence = .present := h
  rw [evidence, if_neg h', onPresence_eq_changed, peerChange_not_opened]
  rfl

/-! ## What evidence leaves as it is -/

/-- A LOCK changes lock logic and the latch alone (R66). -/
theorem takeLock_frame (src : ActionSource) (c : LockCause) (x : Byte) (own : Bool) (s : State) :
    takeLock src c x own s =
      { s with lock := (takeLock src c x own s).lock, latch := (takeLock src c x own s).latch } := by
  simp only [takeLock]; split_ifs <;> rfl

/-- Evidence changes the roster, and lock logic and the latch by the drive-away test (R29, R32, R75). -/
theorem evidence_frame (n : Fin 8) (s : State) :
    evidence n s =
      { s with
        roster := (evidence n s).roster, lock := (evidence n s).lock, latch := (evidence n s).latch } := by
  have hchanged : ∀ p, changed n p s = { s with roster := (changed n p s).roster } := by
    intro p
    simp only [changed]; split <;> rfl
  have hroster : ∀ u : State, u = { s with roster := u.roster } →
      u = { s with roster := u.roster, lock := u.lock, latch := u.latch } := by
    rintro u hu
    rw [hu]
  have htest : ∀ u : State, driveAwayTest u =
      { u with lock := (driveAwayTest u).lock, latch := (driveAwayTest u).latch } := by
    intro u
    simp only [driveAwayTest]
    split_ifs
    · exact takeLock_frame .driveAway .driveAway 0 false { u with lock := _ }
    · rfl
  by_cases h : (s.roster.peers[n]).presence = .present
  · rw [evidence_of_present n s h]
    exact hroster _ (hchanged _)
  · rw [evidence_of_not_present n s h, htest, hchanged]

@[simp] theorem evidence_straps (n : Fin 8) (s : State) : (evidence n s).straps = s.straps := by
  rw [evidence_frame]
@[simp] theorem evidence_supply (n : Fin 8) (s : State) : (evidence n s).supply = s.supply := by
  rw [evidence_frame]
@[simp] theorem popped_straps (s : State) : (popped s).straps = s.straps := rfl
@[simp] theorem popped_supply (s : State) : (popped s).supply = s.supply := rfl

/-- A telegram that is not discarded is taken at a station with valid straps (R27). -/
theorem configFault_of_takes {s : State} {m : Message} {t : Nat} (h : takes s m t) (hm : m ≠ .discarded) :
    configFault s = false := by
  obtain ⟨_, _, e, rest, _, _, rfl⟩ := h
  by_contra hc
  exact hm (if_pos (by simpa using hc))

/-- A station that has taken a telegram has a window where its position has one (R95). -/
theorem hasWindow_after_evidence {s : State} {m : Message} {t : Nat} (n : Fin 8) (h : takes s m t)
    (hm : m ≠ .discarded) : hasWindow (evidence n (popped s)) = decide (s.straps.position ≠ 4) := by
  rw [Bool.eq_iff_iff, hasWindow_iff, operating_iff, running_iff, configFault]
  simpa [configFault] using fun _ => ⟨(running_iff s).mp h.1, by simpa [configFault] using configFault_of_takes h hm⟩

/-! ## The duplicate filter (R41) -/

theorem isCopy_iff (e : Option FilterEntry) (q : Byte) : isCopy e q = true ↔ ∃ life, e = some ⟨q, life⟩ := by
  cases e with
  | none => simp [isCopy]
  | some x =>
    simp only [isCopy, beq_iff_eq]
    exact ⟨fun h => ⟨x.life, by rw [← h]⟩, fun ⟨_, h⟩ => (congrArg FilterEntry.sequence (Option.some.inj h))⟩

/-- The copy of a held LOCKREQ goes no further (R41). -/
theorem filterLockreq_of_copy (n : Fin 8) (q : Byte) (f : State → State) (s : State)
    (h : ∃ life, (s.roster.peers[n]).lockreqFilter = some ⟨q, life⟩) : filterLockreq n q f s = s :=
  if_pos ((isCopy_iff _ q).mpr h)

/-- Any other LOCKREQ is taken, with its sequence in the filter for 500 ms (R41). -/
theorem filterLockreq_of_not_copy (n : Fin 8) (q : Byte) (f : State → State) (s : State)
    (h : ¬ ∃ life, (s.roster.peers[n]).lockreqFilter = some ⟨q, life⟩) :
    filterLockreq n q f s =
      f (setPeer n { s.roster.peers[n] with lockreqFilter := some ⟨q, 500000⟩ } s) :=
  if_neg (mt (isCopy_iff _ q).mp h)

/-- The copy of a held WINDOWREQ goes no further (R41). -/
theorem filterWindowreq_of_copy (n : Fin 8) (q : Byte) (f : State → State) (s : State)
    (h : ∃ life, (s.roster.peers[n]).windowreqFilter = some ⟨q, life⟩) : filterWindowreq n q f s = s :=
  if_pos ((isCopy_iff _ q).mpr h)

/-- Any other WINDOWREQ is taken, with its sequence in the filter for 500 ms (R41). -/
theorem filterWindowreq_of_not_copy (n : Fin 8) (q : Byte) (f : State → State) (s : State)
    (h : ¬ ∃ life, (s.roster.peers[n]).windowreqFilter = some ⟨q, life⟩) :
    filterWindowreq n q f s =
      f (setPeer n { s.roster.peers[n] with windowreqFilter := some ⟨q, 500000⟩ } s) :=
  if_neg (mt (isCopy_iff _ q).mp h)

/-- A child request at a rear station, and at another one (R83). -/
theorem takeChildRequest_eq (on : Bool) (s : State) :
    takeChildRequest on s =
      if s.straps.position = 2 ∨ s.straps.position = 3 then { s with child := childRequest on s.child } else s := by
  simp [takeChildRequest, isRear, ownNumber]

end Sys2Proof.Machine

/-- Settles O25: the three rows under which a telegram is evidence alone or nothing. -/
theorem evidenceRows : Obligations.EvidenceRows := by
  intro s n t
  refine ⟨fun h => ?_, fun h => ?_, fun h => ?_, evidence_of_present n s, evidence_of_not_present n s⟩
  · exact taking_of_takes (row := .dispatchDiscard) (fun _ _ u => u) h rfl
  · exact taking_of_takes (row := .faultTaken) onEvidence h rfl
  · exact taking_of_takes (row := .serviceackTaken) onEvidence h rfl

/-- Settles O28: each row filters the telegram after its evidence. -/
theorem lockreqRows : Obligations.LockreqRows := by
  intro s n t q number s1 copy s2
  have hcopy : copy → ∀ f, filterLockreq n q f s1 = s1 := fun h f => filterLockreq_of_copy n q f s1 h
  have hnew : ¬ copy → ∀ f, filterLockreq n q f s1 = f s2 := fun h f => filterLockreq_of_not_copy n q f s1 h
  refine ⟨fun cause h => ?_, fun cause h => ?_, fun cause h => ?_, fun on h => ?_⟩
  · have hx : exec .lockreqLock s = .next (conclude
        (filterLockreq n q (takeRequest .lock (.node n q) cause number false) s1)) :=
      taking_of_takes (row := .lockreqLock) onCentral h rfl
    exact ⟨fun hc => hcopy hc _ ▸ hx, fun hc => by rw [hx, hnew hc]; rfl⟩
  · have hx : exec .lockreqDeadlock s = .next (conclude
        (filterLockreq n q (takeRequest .deadlock (.node n q) cause number false) s1)) :=
      taking_of_takes (row := .lockreqDeadlock) onCentral h rfl
    refine ⟨fun hc => hcopy hc _ ▸ hx, fun hc hb => ?_, fun hc hb => ?_⟩
    · rw [hx, hnew hc, takeRequest, if_pos hb]
    · rw [hx, hnew hc, takeRequest, if_neg hb]
  · have hx : exec .lockreqUnlock s = .next (conclude
        (filterLockreq n q (takeRequest .unlock (.node n q) cause number false) s1)) :=
      taking_of_takes (row := .lockreqUnlock) onCentral h rfl
    exact ⟨fun hc => hcopy hc _ ▸ hx, fun hc => by rw [hx, hnew hc]; rfl⟩
  · intro c
    have hx : exec c s = .next (conclude (filterLockreq n q (takeChildRequest on) s1)) := by
      cases on
      · exact taking_of_takes (row := .lockreqChildOff) onChild h rfl
      · exact taking_of_takes (row := .lockreqChildOn) onChild h rfl
    have hpos : s2.straps.position = s.straps.position := by simp [s2, s1, setPeer]
    refine ⟨fun hc => hcopy hc _ ▸ hx, fun hc h2 h3 => ?_, fun hc hr => ?_⟩
    · rw [hx, hnew hc, takeChildRequest_eq, hpos, if_neg (by simp [h2, h3])]
    · rw [hx, hnew hc, takeChildRequest_eq, hpos, if_pos hr]

end

section
/-! SUPPORT. Taken telegrams at window drive, at crash response and at the search unit (R92, R103, R104, R138,
R157). -/

open Sys2Proof Sys2Proof.Machine Sys2Proof.Safety Sys2Proof.Claims

namespace Sys2Proof.Machine

/-! ## Pack commands (R103) -/

theorem holds_iff (h : Option Hold) (d : Dir) : holds h d = true ↔ ∃ x, h = some x ∧ x.dir = d := by
  cases h <;> simp [holds]

/-- A pack MANUAL refreshes the running pack move of its direction (R103). -/
theorem packManual_of_running (d : Dir) (s : State) (m : Move) (hm : s.window.move = some m)
    (hk : m.kind = .manual) (hs : m.source = .pack) (hd : m.dir = d) :
    packManual d s =
      { s with window :=
        { s.window with
          move := some { m with lease := some 250000 }
          spentHold := match s.window.spentHold with
            | some h => if h.dir = d then some h else none
            | none => none } } := by
  have hhold : (if holds s.window.spentHold d then s.window.spentHold else none) =
      match s.window.spentHold with
      | some h => if h.dir = d then some h else none
      | none => none := by
    cases s.window.spentHold <;> simp [holds]
  have hrefresh : m.kind = .manual ∧ m.source = .pack ∧ m.dir = d := ⟨hk, hs, hd⟩
  simp only [packManual, hm, if_pos hrefresh, onWindow, hhold]
  rfl

/-- A pack MANUAL that is no refresh keeps the spent hold of its direction, or is a new command (R103). -/
theorem packManual_of_not_running (d : Dir) (s : State)
    (hm : ∀ m, s.window.move = some m → ¬ (m.kind = .manual ∧ m.source = .pack ∧ m.dir = d)) :
    packManual d s =
      if holds s.window.spentHold d then
        { s with window := { s.window with spentHold := some ⟨d, 250000⟩ } }
      else takeCommand ⟨.manual, d, .pack⟩ { s with window := { s.window with spentHold := none } } := by
  unfold packManual
  dsimp only
  split
  · rw [if_neg (hm _ ‹_›)]
    rfl
  · rfl

@[simp] theorem clearHalted_move (w : Window) : (clearHalted w).move = w.move := by
  unfold clearHalted; split <;> rfl

/-- A pack STOP ends a move that is no reversal (R103, R104). -/
theorem packStop_eq (s : State) :
    packStop s =
      let s1 : State := { s with window := { clearHalted s.window with spentHold := none } }
      match s.window.move with
      | some m => if m.kind = .reversal then s1 else endMove .yieldingStop false false .none s1
      | none => s1 := by
  simp only [packStop, endIf, onWindow, clearHalted_move]
  cases s.window.move with
  | none => rfl
  | some m => cases hk : m.kind <;> simp [hk]

/-! ## PINCH, CRASH and SEARCH -/

theorem globalMove_iff (d : Dir) (w : Window) :
    globalMove d w = true ↔ ∃ m, w.move = some m ∧ m.kind = .global ∧ m.dir = d := by
  cases h : w.move <;> simp [globalMove, h]

/-- A peer's PINCH ends nothing but an upward GLOBAL move (R138). -/
theorem peerPinch_of_none (s : State)
    (h : ∀ m, s.window.move = some m → ¬ (m.kind = .global ∧ m.dir = .up)) : peerPinch s = s := by
  have hg : globalMove .up s.window = false := by
    rw [← Bool.not_eq_true, globalMove_iff]
    rintro ⟨m, hm, hup⟩
    exact h m hm hup
  simp [peerPinch, endGlobal, hg]

/-- A peer's PINCH ends an upward GLOBAL move with a brake-stop (R138). -/
theorem peerPinch_of_up (s : State) (m : Move) (hm : s.window.move = some m) (hk : m.kind = .global)
    (hd : m.dir = .up) (hw : hasWindow s = true) : peerPinch s = endMove .brakeStop false false .none s := by
  have hg : globalMove .up s.window = true := (globalMove_iff _ _).mpr ⟨m, hm, hk, hd⟩
  simp [peerPinch, endGlobal, hg, hw]

/-- The place in the phases of a search joined at an age (R157, R159, R162). -/
theorem joinSearch_eq (keep : Bool) (number : Byte) (slots : BitVec 6) (t0 : Nat) (s : State) :
    let joined (phase : SearchPhase) : State :=
      { s with search :=
        { s.search with
          number := number, slots := slots, t0 := some t0, verdicts := Vector.replicate 4 none
          coilOpen := false, touchZone := if keep = true then s.search.touchZone else none
          wakeWait := .stopped, awaited := false, driving := none, phase := phase
          nextSlot :=
            ((List.finRange 6).filter fun k => decide (1000 + 3000 * k.val < s.now - t0)).length } }
    joinSearch keep number slots t0 s =
      if s.now - t0 < 18000 then paused (joined .inFlight)
      else if s.now - t0 < 120000 then joined .collecting else endCollection (joined .collecting) := by
  by_cases h18 : s.now - t0 < 18000
  · simp only [joinSearch, onSearch, tInFlight, h18, if_true]
    rfl
  · simp only [joinSearch, onSearch, tInFlight, tCollect, h18, if_false]
    rfl

end Sys2Proof.Machine

/-- Settles O29: the rows filter the telegram after its evidence; a pack command refreshes, is held, or is new. -/
theorem windowreqRows : Obligations.WindowreqRows := by
  refine ⟨?_, fun d s => ⟨?_, ?_, ?_, rfl, ?_, ?_, ?_⟩⟩
  · intro s n set q a t h c s1 copy s2
    have hx : exec c s = .next (conclude (filterWindowreq n q (fun u =>
        if set.getLsbD (ownNumber u).val && hasWindow u then windowRequest a u else u) s1)) := by
      cases a
      · exact taking_of_takes (row := .windowreqManualUp) onWindowreq h rfl
      · exact taking_of_takes (row := .windowreqManualDown) onWindowreq h rfl
      · exact taking_of_takes (row := .windowreqAutoUp) onWindowreq h rfl
      · exact taking_of_takes (row := .windowreqAutoDown) onWindowreq h rfl
      · exact taking_of_takes (row := .windowreqStop) onWindowreq h rfl
    have hpos : ownNumber s2 = s.straps.position := by simp [s2, s1, setPeer, ownNumber]
    have hwin : hasWindow s2 = decide (s.straps.position ≠ 4) := hasWindow_after_evidence n h nofun
    have hnew : ¬ copy → exec c s = .next (conclude
        (if set.getLsbD s.straps.position.val && decide (s.straps.position ≠ 4) then windowRequest a s2 else s2)) := by
      intro hc
      rw [hx, filterWindowreq_of_not_copy n q _ s1 hc, ← hwin, ← hpos]
    refine ⟨fun hc => ?_, fun hc hn => ?_, fun hc hset h4 => ?_⟩
    · rw [hx, filterWindowreq_of_copy n q _ s1 hc]
    · rw [hnew hc, if_neg]
      rcases hn with hn | hn <;> rw [hn] <;> simp
    · rw [hnew hc, if_pos (by rw [hset]; simp [h4])]
      cases a <;> rfl
  · exact packManual_of_running d s
  · intro r hr hm
    rw [packManual_of_not_running d s hm, if_pos ((holds_iff _ d).mpr ⟨_, hr, rfl⟩)]
  · intro hh hm
    rw [packManual_of_not_running d s hm, if_neg]
    rw [holds_iff]
    rintro ⟨x, hx, hd⟩
    exact hh x hx hd
  · intro m hm hk
    simp [packStop_eq, hm, hk]
  · intro m hm hk
    simp [packStop_eq, hm, hk]
  · intro hm
    simp [packStop_eq, hm]

/-- Settles O30: the three telegrams after their evidence, and the phase of a search joined by its age. -/
theorem pinchCrashSearchRows : Obligations.PinchCrashSearchRows := by
  constructor
  · intro s n t s1
    refine ⟨fun h => ?_, fun x hn h => ?_, fun number slots h => ?_⟩
    · have hx : exec .pinchTaken s = .next (conclude (peerPinch s1)) :=
        taking_of_takes (row := .pinchTaken) onPinchTelegram h rfl
      rw [hx]
      refine ⟨fun hm => by rw [peerPinch_of_none s1 hm], fun m hm hk hd hw => ?_⟩
      have hwin : hasWindow s1 = true := by
        rw [hasWindow_after_evidence n h nofun]
        exact decide_eq_true ((hasWindow_iff s).mp hw).2
      rw [peerPinch_of_up s1 m hm hk hd hwin]
    · have hx : exec .crashTaken s = .next (conclude (takeCrash n x s1)) :=
        taking_of_takes (row := .crashTaken) onCrash h rfl
      rw [hx]
      refine ⟨fun hl => ?_, fun hl => ?_⟩
      · simp [takeCrash, hn, hl]
      · simp [takeCrash, hn, hl, setCrashNumber]
    · have hx : exec .searchTaken s = .next (conclude (takeSearch number slots t s1)) :=
        taking_of_takes (row := .searchTaken) onSearchTelegram h rfl
      rw [hx]
      refine ⟨fun hp => ?_, fun hp => ?_, fun hp => ?_⟩
      · simp [takeSearch, hp]
      · simp only [takeSearch, hp, withdrawSearch]
        rfl
      · rcases hp with hp | hp <;> simp [takeSearch, hp]
  · intro keep number slots t0 s age joined
    have hj := joinSearch_eq keep number slots t0 s
    refine ⟨fun h => ?_, fun h h' => ?_, fun h => ?_⟩
    · exact hj.trans (if_pos h)
    · exact hj.trans ((if_neg (Nat.not_lt.mpr h)).trans (if_pos h'))
    · exact hj.trans ((if_neg (by omega)).trans (if_neg (Nat.not_lt.mpr h)))

end

section
/-! SUPPORT. The zone bus link: readings of the line, attempts with their outcomes, reception, and the link
states (R1, R4 to R11, R17 to R22). -/

open Sys2Proof Sys2Proof.Machine Sys2Proof.Safety Sys2Proof.Claims

namespace Sys2Proof.Machine

/-! ## The line -/

/-- The recessive bits at the end of a telegram are those of the statements (R22). -/
theorem endRun_eq (f : LineFrame) : endRun f = recessiveRun (completeBits f) := (recessiveRun_completeBits f).symm

/-- An end field read to its end (R1, R22). -/
theorem ended_eq (f : LineFrame) (l : Link) : ended f l = endField f l := by
  simp only [ended, endField, endRun_eq, tBit, Nat.mul_comm]

/-- A link that hears another node is JOINED, but where it is STUCK (R19, R20). -/
theorem heard_eq (l : Link) :
    heard l =
      { l with
        state := if l.state = .stuck then .stuck else .joined
        isolation := if l.state = .stuck then l.isolation else some 0 } := by
  cases l with
  | mk state => cases state <;> rfl

theorem reading_iff (s : State) : reading s = true ↔ running s = true ∧ s.power.asleep = false := by simp [reading]

/-! ## Entries and blocks -/

theorem waited_eq (s : State) : waited s = stateAttemptEnded s := by
  unfold waited stateAttemptEnded
  split
  · rfl
  · rfl

theorem flagOutcome_eq (collided : Bool) (s : State) : flagOutcome collided s = stateOutcome collided s := by
  cases collided <;> rfl

theorem settles_eq (s : State) : settles s = trySettle s := rfl

/-- An own central LOCKREQ, and every other telegram, at lock logic (R64, R86). -/
theorem centralSequence_of_central (t : Telegram) (h : t.kind = 3 ∧ payloadByte t 1 ≠ 4) :
    centralSequence t = some (payloadByte t 2) := if_pos h

theorem centralSequence_of_not (t : Telegram) (h : ¬ (t.kind = 3 ∧ payloadByte t 1 ≠ 4)) :
    centralSequence t = none := if_neg h

theorem request_eq (a : CentralAction) (src : ActionSource) (cause : LockCause) (number : Byte) (own : Bool)
    (s : State) : request a src cause number own s = takeRequest a src cause number own s := by
  cases a <;> rfl

/-- The confirmation of an own request (R65). -/
theorem confirmed_eq (t : Telegram) (s : State) : confirmed t s = requestOutcome (payloadByte t 2) true s := by
  unfold confirmed requestOutcome
  cases s.lock.inFlight with
  | none => rfl
  | some r => simp only [request_eq, Bool.true_and]; rfl

/-- A dropped own request ends without being applied again (R65). -/
theorem requestOutcome_dropped (q : Byte) (s : State) :
    requestOutcome q false s =
      match s.lock.inFlight with
      | none => s
      | some r => if r.sequence = q then { s with lock := { s.lock with inFlight := none } } else s := by
  unfold requestOutcome
  cases s.lock.inFlight <;> rfl

/-- What a dropped entry does at its block (R22, R65, R155, R156, R179). -/
theorem dropped_eq (s : State) (e : TxEntry) : dropped s e = dropEntry s e := by
  unfold dropped dropEntry
  rw [waited_eq, flagOutcome_eq]
  refine if_congr Iff.rfl rfl (if_congr Iff.rfl rfl ?_)
  by_cases hc : e.telegram.kind = 3 ∧ payloadByte e.telegram 1 ≠ 4
  · rw [if_pos hc, centralSequence_of_central e.telegram hc]
    exact (requestOutcome_dropped _ s).symm
  · rw [if_neg hc, centralSequence_of_not e.telegram hc]

/-! ## Link states -/

theorem requestOutcome_dropped_power (q : Byte) (s : State) : (requestOutcome q false s).power = s.power := by
  rw [requestOutcome_dropped]
  cases s.lock.inFlight with
  | none => rfl
  | some r => dsimp only; split <;> rfl

theorem stateOutcome_asleep (collided : Bool) (s : State) :
    (stateOutcome collided s).power.asleep = s.power.asleep := by
  unfold stateOutcome
  split
  · split <;> rfl
  · rfl

/-- A dropped entry wakes no station and sends none to sleep. -/
theorem dropEntry_asleep (s : State) (e : TxEntry) : (dropEntry s e).power.asleep = s.power.asleep := by
  have hattempt : (stateAttemptEnded s).power = s.power := by unfold stateAttemptEnded; split <;> rfl
  unfold dropEntry
  split
  · rw [stateOutcome_asleep, hattempt]
  split
  · unfold searchOutcome
    split <;> rfl
  split
  · rw [requestOutcome_dropped_power]
  · rfl

theorem foldl_dropEntry_asleep (es : List TxEntry) (s : State) :
    (es.foldl dropEntry s).power.asleep = s.power.asleep := by
  induction es generalizing s with
  | nil => rfl
  | cons e es ih => rw [List.foldl_cons, ih, dropEntry_asleep]

theorem lineStuck_iff (l : Link) :
    lineStuck l = true ↔
      l.state ≠ .stuck ∧ l.insideTelegram = false ∧ l.level = .dominant ∧ 1000 ≤ l.dominantFor := by
  simp only [lineStuck, Bool.and_eq_true, bne_iff_ne, Bool.not_eq_true', beq_iff_eq, decide_eq_true_eq, and_assoc]
  rfl

theorem lineFree_iff (l : Link) :
    lineFree l = true ↔
      l.state = .stuck ∧ l.insideTelegram = false ∧ l.level = .recessive ∧
        10000 ≤ l.tailFor + l.recessiveFor := by
  simp only [lineFree, Bool.and_eq_true, Bool.not_eq_true', beq_iff_eq, decide_eq_true_eq, and_assoc]
  rfl

end Sys2Proof.Machine

/-- Settles O21: the guards of the two counts, and the fold over the dropped entries. -/
theorem linkStateRows : Obligations.LinkStateRows := by
  intro s hrun hawake
  have hread : reading s = true := (reading_iff s).2 ⟨hrun, hawake⟩
  refine ⟨fun hj => ?_, fun hj => ?_, ⟨fun hs hi hl hd => ?_, fun h => ?_⟩, fun hs hi hl hd => ?_, fun h => ?_⟩
  · dsimp only [exec, execIsolationTimeout]
    rw [event_of_true s _ (by rw [hread, hj]; rfl), capture_of_awake (onLink _ s) _ _ _ _ hawake]
    rfl
  · dsimp only [exec, execIsolationTimeout]
    exact event_of_false s _ (by simp [hj])
  · dsimp only [exec, execLineStuck]
    rw [event_of_true s _ (by simp [hread, lineStuck_iff, hs, hi, hl, hd]), enterStuck,
      capture_of_awake _ _ _ _ _ ((foldl_dropEntry_asleep _ (onLink _ s)).trans hawake),
      show dropped = dropEntry from funext fun u => funext (dropped_eq u)]
    rfl
  · refine event_of_false s _ ?_
    have hnot : ¬ lineStuck s.link = true := by
      rw [lineStuck_iff]
      rintro ⟨hs, hi, hl, hd⟩
      rcases h with h | h | h | h
      · exact hs h
      · simp [hi] at h
      · simp [hl] at h
      · omega
    simp [hnot]
  · exact event_of_true s _ (by simp [hread, lineFree_iff, hs, hi, hl, hd])
  · refine event_of_false s _ ?_
    have hnot : ¬ lineFree s.link = true := by
      rw [lineFree_iff]
      rintro ⟨hs, hi, hl, hd⟩
      rcases h with h | h | h | h
      · exact h hs
      · simp [hi] at h
      · simp [hl] at h
      · omega
    simp [hnot]

end

section
/-! SUPPORT. The end of an own attempt: what becomes of its entry, what its block is told, and which stations
were to answer (R9 to R11, R13, R14, R65, R155, R156, R179). -/

open Sys2Proof Sys2Proof.Machine Sys2Proof.Safety Sys2Proof.Claims

namespace Sys2Proof.Machine

/-! ## The entry in its attempt -/

theorem attempting_of_attemptAt {s : State} {pre post : List TxEntry} {e : TxEntry} (h : attemptAt s pre post e) :
    attempting s.link = some e := by
  obtain ⟨htx, he, hother⟩ := h
  exact List.find?_eq_some_iff_append.2
    ⟨he, pre, post, htx, fun x hx => by simp [hother x (List.mem_append_left _ hx)]⟩

theorem flatMap_of_noAttempt (f : TxEntry → List TxEntry) (es : List TxEntry)
    (h : ∀ x ∈ es, x.inAttempt = false) :
    (es.flatMap fun x => if x.inAttempt then f x else [x]) = es := by
  induction es with
  | nil => rfl
  | cons x xs ih =>
    obtain ⟨hx, hxs⟩ := List.forall_mem_cons.1 h
    simp [hx, ih hxs]

/-- Only the entry in its attempt is replaced at the end of the attempt. -/
theorem flatMap_of_attemptAt {s : State} {pre post : List TxEntry} {e : TxEntry} (h : attemptAt s pre post e)
    (f : TxEntry → List TxEntry) :
    (s.link.tx.flatMap fun x => if x.inAttempt then f x else [x]) = pre ++ f e ++ post := by
  obtain ⟨htx, he, hother⟩ := h
  have hpre := flatMap_of_noAttempt f pre fun x hx => hother x (List.mem_append_left _ hx)
  have hpost := flatMap_of_noAttempt f post fun x hx => hother x (List.mem_append_right _ hx)
  rw [htx, List.flatMap_append, List.flatMap_cons, hpre, hpost, if_pos he, List.append_assoc]

/-- The station with the transmit queue `tx` that the end of an attempt leaves; a settle timer that runs
begins again (R179). -/
def attemptOver (tx : List TxEntry) (s : State) : State :=
  { s with
    link := { s.link with tx }
    power := { s.power with settle := if s.power.entry = .settling then some 0 else s.power.settle } }

/-- The end of an attempt: the entry leaves, is replaced or is queued on, a retried kind without all its
answers is reported after its third attempt, and its block has the outcome (R9 to R11). -/
theorem endAttempt_eq {s : State} {pre post : List TxEntry} {e : TxEntry} (h : attemptAt s pre post e)
    (slots : Byte) (collided : Bool) {missing : Byte} {held failed : Bool}
    (hm : missing = expectedAckers (if collided then 0 else 80) s &&& ~~~slots)
    (hh : held = (!collided && missing == 0))
    (hf : failed = (!sentOnce e.telegram.kind && !held && decide (3 ≤ e.attempts + 1))) :
    endAttempt slots collided s =
      deliverOutcome collided (held || failed) e.telegram
        (if failed then
          captureAwake .busNoack (e.telegram.kind.setWidth 8) (missing &&& 0x1F) 3
            (attemptOver (pre ++ entryAfter held missing e ++ post) s)
        else attemptOver (pre ++ entryAfter held missing e ++ post) s) := by
  subst hm hh hf
  unfold endAttempt
  rw [attempting_of_attemptAt h]
  dsimp only [onLink]
  rw [flatMap_of_attemptAt h]
  rfl

/-! ## The entry after its attempt -/

/-- What stays in the place of an entry that leaves: a replacement that waits (R13, R14). -/
def replacement (e : TxEntry) : List TxEntry :=
  match e.waiting with
  | none => []
  | some t => [fresh t]

/-- An entry sent once, answered by all, or sent for the third time leaves (R10). -/
theorem entryAfter_of_leaves {held : Bool} {missing : Byte} {e : TxEntry}
    (h : sentOnce e.telegram.kind = true ∨ held = true ∨ 2 ≤ e.attempts) :
    entryAfter held missing e = replacement e := by
  have hleaves : (sentOnce e.telegram.kind || held || decide (3 ≤ e.attempts + 1)) = true := by
    rcases h with h | h | h
    · simp [h]
    · simp [h]
    · simp; omega
  unfold entryAfter replacement
  cases e.waiting with
  | none => exact if_pos hleaves
  | some t => rfl

/-- An entry of a retried kind stays after its first and second attempt (R10). -/
theorem entryAfter_of_stays {missing : Byte} {e : TxEntry} (hk : sentOnce e.telegram.kind = false)
    (h : e.attempts < 2) :
    entryAfter false missing e =
      match e.waiting with
      | none => [{ e with attempts := e.attempts + 1, missing := missing, inAttempt := false }]
      | some t => [fresh t] := by
  have hstays : (sentOnce e.telegram.kind || false || decide (3 ≤ e.attempts + 1)) = false := by simp [hk, h]
  unfold entryAfter
  cases e.waiting with
  | none => exact if_neg (by rw [hstays]; nofun)
  | some t => rfl

theorem sentOnce_iff (k : BitVec 4) : sentOnce k = true ↔ k = 8 ∨ k = 5 ∨ k = 11 := by
  simp [sentOnce, kState, kSearch, kServiceack, or_assoc]

/-! ## The outcome at the block -/

theorem deliverOutcome_of_state {collided left : Bool} {t : Telegram} (s : State) (h : t.kind = 8) :
    deliverOutcome collided left t s = trySettle (stateOutcome collided (stateAttemptEnded s)) := if_pos h

theorem deliverOutcome_of_search {collided left : Bool} {t : Telegram} (s : State) (h : t.kind = 5) :
    deliverOutcome collided left t s = searchOutcome t (!collided) s := by
  simp [deliverOutcome, kState, kSearch, h]

/-- Lock logic hears of an own central LOCKREQ that has left (R65). -/
theorem deliverOutcome_of_central {collided left : Bool} {t : Telegram} (s : State)
    (h : t.kind = 3 ∧ payloadByte t 1 ≠ 4) :
    deliverOutcome collided left t s = if left then requestOutcome (payloadByte t 2) true s else s := by
  simp [deliverOutcome, kState, kSearch, h.1, centralSequence_of_central t h]

theorem deliverOutcome_of_not_central {collided left : Bool} {t : Telegram} (s : State) (h8 : t.kind ≠ 8)
    (h5 : t.kind ≠ 5) (h : ¬ (t.kind = 3 ∧ payloadByte t 1 ≠ 4)) :
    deliverOutcome collided left t s = s := by
  refine (if_neg h8).trans ((if_neg h5).trans ?_)
  rw [centralSequence_of_not t h]

/-- An own attempt that left its block nothing to apply again. -/
theorem deliverOutcome_of_left {collided : Bool} {t : Telegram} (s : State) (h8 : t.kind ≠ 8) (h5 : t.kind ≠ 5) :
    (t.kind = 3 ∧ payloadByte t 1 ≠ 4 → deliverOutcome collided true t s = confirmed t s) ∧
    (¬ (t.kind = 3 ∧ payloadByte t 1 ≠ 4) → deliverOutcome collided true t s = s) :=
  ⟨fun h => by rw [deliverOutcome_of_central s h, confirmed_eq]; rfl, deliverOutcome_of_not_central s h8 h5⟩

theorem deliverOutcome_of_stays {collided : Bool} {t : Telegram} (s : State) (h8 : t.kind ≠ 8) (h5 : t.kind ≠ 5) :
    deliverOutcome collided false t s = s := by
  by_cases h : t.kind = 3 ∧ payloadByte t 1 ≠ 4
  · rw [deliverOutcome_of_central s h]; rfl
  · exact deliverOutcome_of_not_central s h8 h5 h

/-! ## The end of an attempt, by the kind of its telegram -/

section
variable {s : State} {pre post : List TxEntry} {e : TxEntry} (h : attemptAt s pre post e) (slots : Byte)
  (collided : Bool)
include h

/-- An entry that is sent once leaves at the end of its attempt. -/
theorem endAttempt_of_sentOnce (hk : sentOnce e.telegram.kind = true) :
    ∃ left, endAttempt slots collided s =
      deliverOutcome collided left e.telegram (attemptOver (pre ++ replacement e ++ post) s) := by
  refine ⟨!collided && (expectedAckers (if collided then 0 else 80) s &&& ~~~slots) == 0, ?_⟩
  rw [endAttempt_eq h slots collided rfl rfl (failed := false) (by simp [hk]),
    entryAfter_of_leaves (.inl hk), Bool.or_false]
  rfl

/-- A retried kind leaves where every expected acker answered (R10). -/
theorem endAttempt_of_held (hc : collided = false) (hm : expectedAckers (if collided then 0 else 80) s &&& ~~~slots = 0) :
    endAttempt slots collided s =
      deliverOutcome collided true e.telegram (attemptOver (pre ++ replacement e ++ post) s) := by
  rw [endAttempt_eq h slots collided hm.symm (held := true) (by simp [hc]) (failed := false) (by simp),
    entryAfter_of_leaves (.inr (.inl rfl))]
  rfl

/-- A retried kind that not all answered stays after its first and second attempt (R10). -/
theorem endAttempt_of_retried (hk : sentOnce e.telegram.kind = false)
    (hm : ¬ (collided = false ∧ expectedAckers (if collided then 0 else 80) s &&& ~~~slots = 0))
    (ha : e.attempts < 2) :
    endAttempt slots collided s =
      deliverOutcome collided false e.telegram
        (attemptOver (pre ++
          (match e.waiting with
            | none =>
              [{ e with
                attempts := e.attempts + 1, inAttempt := false
                missing := expectedAckers (if collided then 0 else 80) s &&& ~~~slots }]
            | some t => [fresh t]) ++ post) s) := by
  have hheld : false =
      (!collided && (expectedAckers (if collided then 0 else 80) s &&& ~~~slots) == 0) := by
    symm; simpa using hm
  rw [endAttempt_eq h slots collided rfl hheld (failed := false) (by simp; omega),
    entryAfter_of_stays hk ha]
  rfl

/-- A retried kind that not all answered leaves with BUS_NOACK after its third attempt (R10, R11). -/
theorem endAttempt_of_failed (hk : sentOnce e.telegram.kind = false)
    (hm : ¬ (collided = false ∧ expectedAckers (if collided then 0 else 80) s &&& ~~~slots = 0))
    (ha : 2 ≤ e.attempts) :
    endAttempt slots collided s =
      deliverOutcome collided true e.telegram
        (captureAwake .busNoack (e.telegram.kind.setWidth 8)
          ((expectedAckers (if collided then 0 else 80) s &&& ~~~slots) &&& 0x1F) 3
          (attemptOver (pre ++ replacement e ++ post) s)) := by
  have hheld : false =
      (!collided && (expectedAckers (if collided then 0 else 80) s &&& ~~~slots) == 0) := by
    symm; simpa using hm
  rw [endAttempt_eq h slots collided rfl hheld (failed := true) (by simp [hk]; omega),
    entryAfter_of_leaves (.inr (.inr ha))]
  rfl

end

/-! ## The expected ackers (R9) -/

theorem shownNodes_getLsbD (s : State) (k : Fin 8) :
    (shownNodes s).getLsbD k.val = true ↔
      (s.roster.peers[k]).presence = .present ∨ (s.roster.peers[k]).presence = .asleep := by
  rw [shownNodes, nodeSet_getLsbD]
  simp [peer]

theorem expectedAckers_getLsbD (age : Nat) (s : State) (k : Fin 8) :
    (expectedAckers age s).getLsbD k.val = true ↔
      k.val < 5 ∧ expectedStation s.straps.body k.val = true ∧ k ≠ s.straps.position ∧
        (shownAt age s).getLsbD k.val = true := by
  rw [expectedAckers, nodeSet_getLsbD]
  simp [expected, ownNumber, and_assoc]

theorem shownAt_of_unchanged (age : Nat) (s : State) (h : ∀ x ∈ s.roster.earlier, x.upTo + age ≤ s.now) :
    shownAt age s = shownNodes s := by
  have hnone : (s.roster.earlier.find? fun x => decide (s.now < x.upTo + age)) = none := by simpa using h
  rw [shownAt, hnone]

theorem shownAt_of_changed (age : Nat) (s : State) (pre post : List RosterPast) (x : RosterPast)
    (he : s.roster.earlier = pre ++ x :: post) (hpre : ∀ y ∈ pre, y.upTo + age ≤ s.now)
    (hx : s.now < x.upTo + age) : shownAt age s = x.shown := by
  have hsome : (s.roster.earlier.find? fun x => decide (s.now < x.upTo + age)) = some x :=
    List.find?_eq_some_iff_append.2 ⟨by simpa using hx, pre, post, he, by simpa using hpre⟩
  rw [shownAt, hsome]

end Sys2Proof.Machine

/-- Settles O18: the end of the attempt, by the kind of the telegram and by its answers. -/
theorem entryAfterAttempt : Obligations.EntryAfterAttempt := by
  refine ⟨?_, fun s k => ⟨shownNodes_getLsbD s k, fun age => ⟨fun h => ?_, fun pre x post he hpre hx => ?_⟩⟩⟩
  · intro s pre post e slots collided hat _ k missing held after central leaves retried noack u
    refine ⟨fun h8 => ?_, fun h5 => ?_, fun h11 => ?_, fun h8 h5 h11 => ?_⟩
    · obtain ⟨left, hu⟩ := endAttempt_of_sentOnce hat slots collided ((sentOnce_iff _).2 (.inl h8))
      refine hu.trans ((deliverOutcome_of_state _ h8).trans ?_)
      rw [settles_eq, flagOutcome_eq, waited_eq]
      rfl
    · obtain ⟨left, hu⟩ := endAttempt_of_sentOnce hat slots collided ((sentOnce_iff _).2 (.inr (.inl h5)))
      have hu : u = searchOutcome e.telegram (!collided) (after leaves) :=
        hu.trans (deliverOutcome_of_search _ h5)
      refine ⟨fun ha => ?_, fun ha hc => ?_, fun ha hc => ?_⟩
      · rw [hu]; exact if_neg (by simpa using ha)
      · rw [hu, hc]; exact if_pos ha
      · rw [hu, hc]; exact if_pos ha
    · obtain ⟨left, hu⟩ := endAttempt_of_sentOnce hat slots collided ((sentOnce_iff _).2 (.inr (.inr h11)))
      have hk : e.telegram.kind = 11 := h11
      exact hu.trans (deliverOutcome_of_not_central _ (by simp [hk]) (by simp [hk]) (by simp [hk]))
    · have hk : sentOnce e.telegram.kind = false := by
        rw [← Bool.not_eq_true, sentOnce_iff]
        rintro (h | h | h)
        exacts [h8 h, h5 h, h11 h]
      refine ⟨fun hh => ?_, fun hh ha => ?_, fun hh ha => ?_⟩
      · have hu := endAttempt_of_held hat slots collided hh.1 hh.2
        obtain ⟨hcentral, hother⟩ := deliverOutcome_of_left (collided := collided)
          (attemptOver (pre ++ replacement e ++ post) s) h8 h5
        exact ⟨fun hc => hu.trans (hcentral hc), fun hc => hu.trans (hother hc)⟩
      · exact (endAttempt_of_retried hat slots collided hk hh ha).trans (deliverOutcome_of_stays _ h8 h5)
      · have hu := endAttempt_of_failed hat slots collided hk hh ha
        obtain ⟨hcentral, hother⟩ := deliverOutcome_of_left (collided := collided)
          (noack (attemptOver (pre ++ replacement e ++ post) s)) h8 h5
        exact ⟨fun hc => hu.trans (hcentral hc), fun hc => hu.trans (hother hc)⟩
  · rw [expectedAckers_getLsbD, shownAt_of_unchanged age s h]
  · rw [expectedAckers_getLsbD, shownAt_of_changed age s pre post x he hpre hx]

end

section
/-! SUPPORT. The start of an own attempt, its loss and its end, and the readings of the line (R1, R4 to R6, R8,
R19 to R22). -/

open Sys2Proof Sys2Proof.Machine Sys2Proof.Safety Sys2Proof.Claims

namespace Sys2Proof.Machine

/-! ## Readings of the line (R1, R21, R22) -/

theorem lineRead_of_pos {n : Nat} (l : Link) (h : 0 < n) :
    lineRead n l = { l with level := .recessive, dominantFor := 0, recessiveFor := min 10000 (20 * n) } := by
  rw [Nat.mul_comm]
  exact if_pos (by omega)

theorem lineIdle_iff (l : Link) : lineIdle l = true ↔ l.level = .recessive ∧ 200 ≤ l.recessiveFor := by
  simp only [lineIdle, Bool.and_eq_true, beq_iff_eq, decide_eq_true_eq]
  rfl

/-- A dominant bit at an idle line is the start bit of a telegram (R1). -/
theorem lineRead_of_idle (l : Link) (h : l.level = .recessive) (hr : 200 ≤ l.recessiveFor) :
    lineRead 0 l =
      { l with insideTelegram := true, level := .dominant, dominantFor := 0, recessiveFor := 0, tailFor := 0 } :=
  if_pos ((lineIdle_iff l).2 ⟨h, hr⟩)

/-- A dominant bit at a line that is not idle begins its run (R21). -/
theorem lineRead_of_short (l : Link) (h : l.level = .recessive) (hr : l.recessiveFor < 200) :
    lineRead 0 l = { l with level := .dominant, dominantFor := 20, recessiveFor := 0, tailFor := 0 } := by
  have hidle : ¬ lineIdle l = true := by rw [lineIdle_iff]; omega
  have hlevel : l.level ≠ .dominant := by rw [h]; nofun
  refine (if_neg hidle).trans ?_
  rw [if_neg hlevel]
  rfl

/-- A further dominant bit leaves the run as it is (R21). -/
theorem lineRead_of_dominant (l : Link) (h : l.level = .dominant) :
    lineRead 0 l = { l with recessiveFor := 0, tailFor := 0 } := by
  have hidle : ¬ lineIdle l = true := by rw [lineIdle_iff, h]; rintro ⟨⟨⟩, -⟩
  refine (if_neg hidle).trans ?_
  rw [if_pos h, ← h]

/-! ## The start of an attempt (R4) -/

theorem mayStart_iff (n : Nat) (s : State) :
    mayStart n s = true ↔
      active s = true ∧ s.link.tx ≠ [] ∧ s.link.state ≠ .stuck ∧
        (if s.link.synchronised then 10 else 20) ≤ n := by
  simp only [mayStart, Bool.and_eq_true, bne_iff_ne, Bool.not_eq_true', List.isEmpty_eq_false_iff,
    decide_eq_true_eq]
  change _ ↔ _ ∧ _ ∧ _ ∧ idleBits s.link ≤ n
  tauto

/-- A reading that starts no attempt is that reading alone. -/
theorem attemptStart_of_reading {s : State} {n : Nat} (hr : reading s = true) (hi : s.link.insideTelegram = false)
    (h : ¬ mayStart n s = true) :
    exec (.attemptStart n) s = .next (conclude { s with link := lineRead n s.link }) := by
  dsimp only [exec, execAttemptStart]
  rw [event_of_true s _ (by simp [hr, hi]), if_neg h]
  rfl

theorem attemptStart_of_mayStart {s : State} {n : Nat} {e : TxEntry} {rest : List TxEntry}
    (hr : reading s = true) (hi : s.link.insideTelegram = false) (h : mayStart n s = true)
    (htx : s.link.tx = e :: rest) :
    exec (.attemptStart n) s =
      .next (conclude { s with link :=
        { s.link with
          level := .recessive, dominantFor := 0, recessiveFor := min 10000 (20 * n)
          insideTelegram := true, tx := { e with inAttempt := true } :: rest } }) := by
  obtain ⟨-, -, -, hbits⟩ := (mayStart_iff n s).1 h
  have hn : 0 < n := by split at hbits <;> omega
  dsimp only [exec, execAttemptStart]
  rw [event_of_true s _ (by simp [hr, hi]), if_pos h]
  dsimp only [onLink]
  rw [lineRead_of_pos s.link hn]
  dsimp only
  rw [htx]
  rfl

/-! ## The outcomes of an attempt (R5, R6, R9) -/

theorem map_of_noAttempt (f : TxEntry → TxEntry) (es : List TxEntry) (h : ∀ x ∈ es, x.inAttempt = false) :
    (es.map fun x => if x.inAttempt then f x else x) = es := by
  induction es with
  | nil => rfl
  | cons x xs ih =>
    obtain ⟨hx, hxs⟩ := List.forall_mem_cons.1 h
    simp [hx, ih hxs]

section
variable {s : State} {pre post : List TxEntry} {e : TxEntry} (h : attemptAt s pre post e) (ha : active s = true)
include h

/-- Only the entry in its attempt is changed at a lost arbitration. -/
theorem map_of_attemptAt (f : TxEntry → TxEntry) :
    (s.link.tx.map fun x => if x.inAttempt then f x else x) = pre ++ f e :: post := by
  obtain ⟨htx, he, hother⟩ := h
  have hpre := map_of_noAttempt f pre fun x hx => hother x (List.mem_append_left _ hx)
  have hpost := map_of_noAttempt f post fun x hx => hother x (List.mem_append_right _ hx)
  rw [htx, List.map_append, List.map_cons, hpre, hpost, if_pos he]

/-- A station reads its own complete telegram as it drove it, with the slots of the others (R8, R22). -/
theorem endAttempted_of_attemptAt (slots : Byte) :
    endAttempted slots s.link = ended { telegramFrame e.telegram with slots } s.link := by
  rw [ended_eq, endAttempted, attempting_of_attemptAt h]

include ha

theorem arbitrationLoss_of_attemptAt :
    exec .arbitrationLoss s =
      .next (conclude { s with link :=
        { s.link with tx := pre ++
            (match e.waiting with
              | none => { e with inAttempt := false }
              | some t => fresh t) :: post } }) := by
  have hrefreshed : refreshed e =
      (match e.waiting with
        | none => { e with inAttempt := false }
        | some t => fresh t) := by
    unfold refreshed
    cases e.waiting <;> rfl
  dsimp only [exec, execArbitrationLoss]
  rw [event_of_true s _ (by simp [ha, attempting_of_attemptAt h])]
  dsimp only [onLink]
  rw [map_of_attemptAt h, hrefreshed]

theorem collision_of_attemptAt :
    exec .collision s =
      .next (conclude (endAttempt 0 true { s with link := { s.link with own := some e.telegram } })) := by
  dsimp only [exec, execCollision]
  rw [event_of_true s _ (by simp [ha, attempting_of_attemptAt h])]
  dsimp only [onLink]
  rw [attempting_of_attemptAt h]
  rfl

/-- The end of an own attempt: slots of other nodes confirm the station on the bus (R19, R20). -/
theorem attemptEnd_of_attemptAt (slots : Byte) :
    exec (.attemptEnd slots) s =
      .next (conclude (endAttempt slots false { s with
        link :=
          (if slots &&& ~~~(BitVec.twoPow 8 s.straps.position.val) = 0 then
            { ended { telegramFrame e.telegram with slots } s.link with ackDriven := none }
          else heard { ended { telegramFrame e.telegram with slots } s.link with ackDriven := none }) })) := by
  dsimp only [exec, execAttemptEnd]
  rw [event_of_true s _ (by simp [ha, attempting_of_attemptAt h])]
  dsimp only [onLink]
  rw [endAttempted_of_attemptAt h]
  by_cases hs : slots &&& ~~~(BitVec.twoPow 8 s.straps.position.val) = 0
  · rw [if_pos hs]
    exact congrArg (fun u => Host.Outcome.next (conclude (endAttempt slots false u))) (if_pos hs)
  · rw [if_neg hs]
    exact congrArg (fun u => Host.Outcome.next (conclude (endAttempt slots false u))) (if_neg hs)

end

theorem heard_of_stuck {l : Link} (h : l.state = .stuck) : heard l = l := by
  unfold heard
  rw [h]

theorem heard_of_not_stuck {l : Link} (h : l.state ≠ .stuck) :
    heard l = { l with state := .joined, isolation := some 0 } := by
  rw [heard_eq, if_neg h, if_neg h]

end Sys2Proof.Machine

/-- Settles O17: the readings of the line, the start, and the outcomes of an attempt. -/
theorem attemptRows : Obligations.AttemptRows := by
  refine ⟨fun s n hrun hawake => ?_, fun s hact pre e post hat => ?_⟩
  · have hr : reading s = true := (reading_iff s).2 ⟨hrun, hawake⟩
    have hactive : configFault s = false → active s = true := fun hc =>
      (active_iff s).2 ⟨by simpa [running] using hrun, hc, hawake⟩
    have hconf : active s = true → configFault s = false := fun ha => ((active_iff s).1 ha).2.1
    refine ⟨fun hi => ?_, ?_⟩
    · dsimp only [exec, execAttemptStart]
      exact event_of_false s _ (by simp [hi])
    · intro hi read may
      have hzero : n = 0 → ¬ mayStart n s = true := by
        rintro rfl h
        obtain ⟨-, -, -, hbits⟩ := (mayStart_iff 0 s).1 h
        split at hbits <;> omega
      refine ⟨fun e rest htx hmay => ?_, fun hnot hn => ?_, fun h0 hl hi' => ?_, fun h0 hl hi' => ?_,
        fun h0 hl => ?_⟩
      · obtain ⟨hc, hstuck, hbits⟩ := hmay
        exact attemptStart_of_mayStart hr hi
          ((mayStart_iff n s).2 ⟨hactive hc, by simp [htx], hstuck, hbits⟩) htx
      · have hno : ¬ mayStart n s = true := by
          rw [mayStart_iff]
          rintro ⟨ha, htx, hstuck, hbits⟩
          exact hnot.elim htx fun h => h ⟨hconf ha, hstuck, hbits⟩
        rw [attemptStart_of_reading hr hi hno, lineRead_of_pos _ hn]
      · rw [attemptStart_of_reading hr hi (hzero h0), h0, lineRead_of_idle _ hl hi']
      · rw [attemptStart_of_reading hr hi (hzero h0), h0, lineRead_of_short _ hl hi']
      · rw [attemptStart_of_reading hr hi (hzero h0), h0, lineRead_of_dominant _ hl]
  · refine ⟨arbitrationLoss_of_attemptAt hat hact, collision_of_attemptAt hat hact, fun slots =>
      ⟨fun h => ?_, fun hs hstuck => ?_⟩⟩
    · rw [attemptEnd_of_attemptAt hat hact]
      rcases h with h | h
      · rw [if_pos h]
      · rw [heard_of_stuck (l := { ended _ s.link with ackDriven := none }) h, ite_self]
    · rw [attemptEnd_of_attemptAt hat hact, if_neg hs,
        heard_of_not_stuck (l := { ended _ s.link with ackDriven := none }) hstuck]

end

section
/-! SUPPORT. Telegrams received, check errors and aborts (R1, R3, R7, R8, R17, R19, R20, R22, R178, R179). -/

open Sys2Proof Sys2Proof.Machine Sys2Proof.Safety Sys2Proof.Claims

namespace Sys2Proof.Machine

theorem attempting_of_noAttempt {s : State} (h : noAttempt s) : attempting s.link = none :=
  List.find?_eq_none.2 fun e he => by simp [h e he]

/-! ## The own slot (R8) -/

/-- The telegrams held at the slot's instant, as the statements count them. -/
theorem heldAt_eq (now bits : Nat) (l : Link) :
    heldAt now (bits * tBit) l =
      (l.rx.filter fun e => decide (e.endInstant + 20 * bits ≤ now)).length +
      (l.taken.filter fun x =>
        decide (x.endInstant + 20 * bits ≤ now) && decide (now < x.takenAt + 20 * bits)).length := by
  rw [Nat.mul_comm]
  rfl

theorem slotDriven_eq_hadPlace (s : State) (f : LineFrame) (bits : Nat) : slotDriven s f bits = hadPlace s f bits := by
  have hown : (!sentBySelf f s.link) = decide (s.link.own ≠ some (telegramOf f)) := by
    rw [decide_not, sentBySelf, beq_eq_decide]
    rfl
  have hstate : (s.link.state != .stuck) = decide (s.link.state ≠ .stuck) := by
    rw [decide_not, bne, beq_eq_decide]
  unfold slotDriven hadPlace
  rw [heldAt_eq, hown, hstate, Bool.and_right_comm]
  rfl

/-! ## A telegram received (R17, R178, R179) -/

theorem linkReceived_eq (s : State) (f : LineFrame) : linkReceived s f s.link = linkAfter s f := by
  unfold linkReceived linkAfter
  rw [slotDriven_eq_hadPlace]
  dsimp only
  by_cases h : hadPlace s f (12 - s.straps.position.val) = true
  · rw [if_pos h]
    simp only [slotBits, ownNumber, h, if_true]
    rw [heard_eq, ended_eq]
    rfl
  · rw [if_neg h]
    simp only [slotBits, ownNumber, h]
    rw [heard_eq, ended_eq]
    rfl

theorem isSleepingState_iff (t : Telegram) :
    isSleepingState t = true ↔ t.kind = 8 ∧ (payloadByte t 0).getLsbD 1 = true := by
  simp [isSleepingState, kState]

/-- A STATE with the sleeping flag leaves the quiet count, every other telegram ends a settling (R178, R179). -/
theorem powerReceived_eq (t : Telegram) (s : State) : powerReceived t s = quietAfter t s := by
  unfold powerReceived quietAfter
  by_cases h : t.kind = 8 ∧ (payloadByte t 0).getLsbD 1 = true
  · rw [if_pos h, (isSleepingState_iff t).2 h]
    rfl
  · have hs : isSleepingState t = false := by rwa [← Bool.not_eq_true, isSleepingState_iff]
    rw [if_neg h, hs]
    by_cases he : s.power.entry = .settling
    · simp [he]
    · simp [he]

theorem recessiveTail_eq (f : LineFrame) : recessiveTail f = tailBits f := rfl

/-! ## The commands -/

section
variable {s : State} (hr : reading s = true) (h : noAttempt s)
include hr h

theorem telegramReceived_of_checkPass {f : LineFrame} (hf : checkPass f = true) :
    exec (.telegramReceived f) s =
      .next (conclude (quietAfter (telegramOf f) { s with link := linkAfter s f })) := by
  dsimp only [exec, execTelegramReceived]
  rw [event_of_true s _ (by simp [hr, hf, attempting_of_noAttempt h])]
  dsimp only [onLink]
  rw [linkReceived_eq, powerReceived_eq]
  rfl

theorem plainCheckError_of_checkFail {f : LineFrame} (hf : checkPass f = false) (hc : cutShort f = false) :
    exec (.plainCheckError f) s =
      .next (conclude { s with link := { ended f s.link with ackDriven := none } }) := by
  dsimp only [exec, execPlainCheckError]
  rw [event_of_true s _ (by simp [hr, hf, hc, attempting_of_noAttempt h]), ended_eq]
  rfl

theorem abort_of_fits {cause : AbortCause} (hf : abortFits cause = true) :
    exec (.abort cause) s =
      .next (conclude { s with link :=
        { abortLine cause s.link with
          insideTelegram := false, synchronised := false, own := none, ackDriven := abortSlot cause s } }) := by
  dsimp only [exec, execAbort]
  rw [event_of_true s _ (by simp [hr, hf, attempting_of_noAttempt h])]
  rfl

end

/-- The slot before end bit `bit` lies so many bits back, from the bit that aborts (R7, R8). -/
theorem abortSlot_dominantEndBit (f : LineFrame) (bit : Fin 4) (s : State) :
    abortSlot (.dominantEndBit f bit) s =
      if checkPass f = true ∧ hadPlace s f (9 + bit.val - s.straps.position.val) = true then
        some s.straps.position
      else none := by
  have hbits : slotBits (ownNumber s) - (3 - bit.val) = 9 + bit.val - s.straps.position.val := by
    simp only [slotBits, ownNumber]
    omega
  simp only [abortSlot, slotDriven_eq_hadPlace, hbits, Bool.and_eq_true]
  rfl

end Sys2Proof.Machine

/-- Settles O16: the four ends of a telegram at a station that reads. -/
theorem receptionRows : Obligations.ReceptionRows := by
  intro s hrun hawake hno
  have hr : reading s = true := (reading_iff s).2 ⟨hrun, hawake⟩
  refine ⟨fun f hf => telegramReceived_of_checkPass hr hno hf,
    fun f hf hc => plainCheckError_of_checkFail hr hno hf hc, fun f hc => ?_, fun f bit hc => ?_⟩
  · rw [abort_of_fits hr hno (cause := .cutShort f) hc, abortLine, recessiveTail_eq, Nat.mul_comm]
    rfl
  · rw [abort_of_fits hr hno (cause := .dominantEndBit f bit) (by simp [abortFits, hc]),
      abortSlot_dominantEndBit]
    rfl

end

section
/-! SUPPORT. Readiness, sleep entry and the wakes (R23, R178 to R180). -/

open Sys2Proof Sys2Proof.Machine Sys2Proof.Safety Sys2Proof.Claims

namespace Sys2Proof.Machine

/-! ## Readiness (R178) -/

theorem latchActive_eq_false (l : Latch) :
    latchActive l = false ↔ (l.phase = .idle ∨ l.phase = .failed) ∧ l.supplyWait = none := by
  simp [latchActive, ← or_iff_not_imp_left]

theorem windowActive_eq_false (w : Window) :
    windowActive w = false ↔ w.move = none ∧ w.bridge = .off ∧ w.coast = none := by
  simp [windowActive, and_assoc]

theorem electrodesIdle_iff (s : State) :
    ((List.finRange 3).all fun e => !measured s e || s.touch.electrodes[e].onCount == 0) = true ↔
      ∀ i : Fin 3, measured s i = true → (s.touch.electrodes[i]).onCount = 0 := by
  simp only [List.all_eq_true, List.mem_finRange, true_implies, Bool.or_eq_true, Bool.not_eq_true', beq_iff_eq]
  exact forall_congr' fun i => by cases measured s i <;> simp

/-- The transmit queue of a station ready for sleep: empty, and in an entry only the STATEs that it placed
(R178, condition 6). -/
theorem txReady_iff (s : State) :
    (if s.power.entry = .none then s.link.tx.isEmpty else s.link.tx.all fun e => e.telegram.kind == kState) = true ↔
      (s.power.entry = .none → s.link.tx = []) ∧ (∀ e ∈ s.link.tx, e.telegram.kind = 8) := by
  by_cases he : s.power.entry = .none
  · rw [if_pos he, List.isEmpty_iff]
    exact ⟨fun h => ⟨fun _ => h, by simp [h]⟩, fun h => h.1 he⟩
  · simp [he, kState]

theorem readyApart_iff (s : State) : readyApart s = true ↔ restful s := by
  unfold readyApart restful blocksQuiet
  simp only [Bool.and_eq_true, Bool.or_eq_true, electrodesIdle_iff, txReady_iff, Bool.not_eq_true',
    latchActive_eq_false, windowActive_eq_false, configFault, Bool.not_eq_false', beq_iff_eq, bne_iff_ne,
    Option.isNone_iff_eq_none, List.isEmpty_iff, and_assoc, or_assoc]
  rfl

/-- Sleep entry begins only where no telegram waits for the dispatcher (R178). -/
theorem ready_iff (s : State) : ready s = true ↔ restful s ∧ s.link.rx = [] := by
  rw [ready, Bool.and_eq_true, readyApart_iff, List.isEmpty_iff]

/-! ## What readiness decides (R179) -/

theorem judgeSleep_of_asleep {s : State} (h : s.power.asleep = true) : judgeSleep s = s := if_pos h

theorem judgeSleep_of_none {s : State} (h : s.power.asleep = false) (he : s.power.entry = .none) :
    judgeSleep s =
      if ready s then { s with power := { s.power with entry := .announcing, flagSent := false, sleepingFlag := true } }
      else s :=
  (if_neg (by simp [h])).trans (if_pos he)

theorem judgeSleep_of_entry {s : State} (h : s.power.asleep = false) (he : s.power.entry ≠ .none) :
    judgeSleep s =
      if readyApart s then s
      else { s with power := { s.power with entry := .none, settle := none, sleepingFlag := false } } :=
  (if_neg (by simp [h])).trans (if_neg he)

/-! ## Inputs, timers and wakes -/

theorem hasInput_iff (i : SwitchInput) (s : State) :
    hasInput i s = true ↔
      (i = .childSwitch → s.straps.position = 2 ∨ s.straps.position = 3) ∧
      (i = .ownWindowSwitch → s.straps.position ≠ 4) ∧ (i = .packContact → isDriverStation s = true) := by
  cases i <;> simp [hasInput, isRear, isTailgate, ownNumber]

theorem wake_of_asleep {s : State} (h : s.power.asleep = true) : wake s = placeState (woken s) := if_pos h

/-- With the flag not sent yet, the quiet time alone begins no settling (R179). -/
theorem trySettle_of_unsent {s : State} (h : s.power.flagSent = false) : trySettle s = s :=
  if_neg (by simp [h])

theorem trySettle_of_sent {s : State} (he : s.power.entry = .announcing) (h : s.power.flagSent = true)
    (hq : s.power.quiet = 2000000) :
    trySettle s =
      { s with
        power := { s.power with entry := .settling, settle := some 0 }
        roster := { s.roster with period := none } } :=
  if_pos ⟨he, h, hq ▸ Nat.le_refl _⟩

theorem quietTimerExpiry_of_announcing {s : State} (ha : active s = true) (he : s.power.entry = .announcing) :
    exec .quietTimerExpiry s =
      .next (conclude (trySettle { s with power := { s.power with quiet := 2000000 } })) := by
  dsimp only [exec, execQuietTimerExpiry]
  rw [event_of_true s _ (by simp [ha, he])]
  rfl

theorem settleExpiry_of_settling {s : State} (ha : active s = true) (he : s.power.entry = .settling)
    (htx : s.link.tx = []) (hrx : s.link.rx = []) : exec .settleExpiry s = .next (conclude (enterSleep s)) := by
  dsimp only [exec, execSettleExpiry]
  exact event_of_true s _ (by simp [ha, he, htx, hrx])

theorem busWakeEdge_of_asleep {s : State} (ho : operating s = true) (h : s.power.asleep = true) :
    exec .busWakeEdge s = .next (conclude (placeState (woken s))) := by
  dsimp only [exec, execBusWakeEdge]
  rw [event_of_true s _ (by simp [ho, h]), wake_of_asleep h]

theorem switchInputWake_of_asleep {s : State} {i : SwitchInput} (ho : operating s = true)
    (h : s.power.asleep = true) (hi : hasInput i s = true) :
    exec (.switchInputWake i) s =
      .next (conclude { placeState (woken s) with pins := { s.pins with wakeDebounce := some (i, 0) } }) := by
  have hpins : (placeState (woken s)).pins = s.pins := placeState_pins (woken s)
  dsimp only [exec, execSwitchInputWake]
  rw [event_of_true s _ (by simp [ho, h, hi])]
  rw [wake_of_asleep h, hpins]

end Sys2Proof.Machine

/-- Settles O24: readiness, the two timers, and the two wakes. -/
theorem sleepRows : Obligations.SleepRows := by
  intro s
  refine ⟨fun i => hasInput_iff i s, judgeSleep_of_asleep, fun h he => ⟨fun hr hrx => ?_, fun hn => ?_⟩,
    fun h he => ⟨fun hr => ?_, fun hn => ?_⟩, fun ha he => ⟨fun hf => ?_, fun hf => ?_⟩,
    settleExpiry_of_settling, fun ho h => ⟨busWakeEdge_of_asleep ho h, fun i => switchInputWake_of_asleep ho h⟩⟩
  · rw [judgeSleep_of_none h he, if_pos ((ready_iff s).2 ⟨hr, hrx⟩)]
  · have hnot : ¬ ready s = true := by
      rw [ready_iff]
      exact fun ⟨hr, hrx⟩ => hn.elim (· hr) (· hrx)
    rw [judgeSleep_of_none h he, if_neg hnot]
  · rw [judgeSleep_of_entry h he, if_pos ((readyApart_iff s).2 hr)]
  · rw [judgeSleep_of_entry h he, if_neg (mt (readyApart_iff s).1 hn)]
  · rw [quietTimerExpiry_of_announcing ha he,
      trySettle_of_unsent (s := { s with power := { s.power with quiet := 2000000 } }) hf]
  · rw [quietTimerExpiry_of_announcing ha he,
      trySettle_of_sent (s := { s with power := { s.power with quiet := 2000000 } }) he hf rfl]

end

section
/-! SUPPORT. The settings store: marks, writes and their answers, and the bytes that a check covers (R3, R175,
R177, R183, R184). -/

open Sys2Proof Sys2Proof.Machine Sys2Proof.Safety Sys2Proof.Claims

namespace Sys2Proof.Machine

/-! ## What a capture leaves alone -/

@[simp] theorem wake_settings (s : State) : (wake s).settings = s.settings := by
  unfold wake
  split
  · exact placeState_settings (wakeBlocks s)
  · rfl

@[simp] theorem wake_straps (s : State) : (wake s).straps = s.straps := by
  unfold wake
  split
  · exact placeState_straps (wakeBlocks s)
  · rfl

@[simp] theorem capture_settings (k : FaultKind) (a b c : Byte) (s : State) :
    (capture k a b c s).settings = s.settings := by simp [capture]

@[simp] theorem capture_straps (k : FaultKind) (a b c : Byte) (s : State) :
    (capture k a b c s).straps = s.straps := by simp [capture]

/-! ## Marks and writes (R175, R184) -/

theorem markRecord_of_not_mem (r : RecordName) (s : State) (h : r ∉ s.settings.writes) :
    markRecord r s = { s with settings := { s.settings with writes := s.settings.writes ++ [r] } } := by
  have hc : ¬ s.settings.writes.contains r = true := by simpa using h
  rw [markRecord, if_neg hc]

theorem nvmWriteStart_of_head {s : State} {r : RecordName} {rest : List RecordName} (ho : operating s = true)
    (hw : s.settings.write = none) (hs : s.settings.writes = r :: rest) :
    exec .nvmWriteStart s =
      .next (conclude { s with settings :=
        { s.settings with
          writes := rest
          write := some { contents := recordNow r s, elapsed := 0 }
          awaited := s.settings.awaited.map fun a => if a.record = r then { a with started := true } else a } }) := by
  dsimp only [exec, execNvmWriteStart]
  rw [event_of_true s _ (by simp [ho, hw, hs]), startWrite, hs]

/-- The state at the end of a write, its fault captured where the check fails, before the answer. -/
def writeOver (w : NvmWrite) (ok : Bool) (s : State) : State :=
  let s1 : State :=
    { s with settings := { s.settings with write := none, store := storeRecord w.contents ok s.settings.store } }
  if ok = true then s1 else capture .nvmWrite (recordByte w.contents.name) 0 0 s1

theorem writeOver_awaited (w : NvmWrite) (ok : Bool) (s : State) :
    (writeOver w ok s).settings.awaited = s.settings.awaited := by
  unfold writeOver
  cases ok
  · exact (congrArg Settings.awaited (capture_settings _ _ _ _ _)).trans rfl
  · rfl

theorem writeOver_straps (w : NvmWrite) (ok : Bool) (s : State) : (writeOver w ok s).straps = s.straps := by
  unfold writeOver
  cases ok
  · exact capture_straps ..
  · rfl

theorem nvmWriteEnd_of_write {s : State} {w : NvmWrite} (ok : Bool) (ho : operating s = true)
    (hw : s.settings.write = some w) :
    exec (.nvmWriteEnd ok) s = .next (conclude (answerWrite w.contents.name ok (writeOver w ok s))) := by
  dsimp only [exec, execNvmWriteEnd]
  rw [event_of_true s _ (by simp [ho, hw]), endWrite, hw]
  rfl

theorem answerWrite_of_none (r : RecordName) (ok : Bool) (s : State)
    (h : ∀ a, s.settings.awaited = some a → ¬ (a.record = r ∧ a.started = true)) : answerWrite r ok s = s := by
  unfold answerWrite
  cases ha : s.settings.awaited with
  | none => rfl
  | some a => exact if_neg (h a ha)

theorem answerWrite_of_awaited (r : RecordName) (ok : Bool) (s : State) (a : Awaited)
    (ha : s.settings.awaited = some a) (hr : a.record = r) (hs : a.started = true) :
    answerWrite r ok s =
      (place
        { kind := 11, sender := BitVec.ofFin s.straps.position
          payload := [subtypeCode a.subtype, if ok then 1 else 3] }
        { s with settings := { s.settings with awaited := none } }).1 := by
  rw [answerWrite, ha]
  exact if_pos ⟨hr, hs⟩

/-! ## The bytes of a record (R183, section 12.4) -/

theorem toList_eq_map_finRange {α : Type} {n : Nat} (v : Vector α n) :
    v.toArray.toList = (List.finRange n).map fun k => v[k] :=
  List.ext_getElem (by simp) (by simp)

theorem recordBytes_optionSet (o : OptionSet) :
    recordBytes (.optionSet o) =
      [BitVec.ofNat 8 ((if o.selective = true then 1 else 0) + (if o.driveAway = true then 2 else 0)),
        (if o.regulate = true then 1 else 0), BitVec.ofNat 8 o.relock, BitVec.ofNat 8 o.sTh] ++
        (List.finRange 6).map fun k => BitVec.ofInt 8 o.offsets[k] := by
  have hflags : ∀ a b : Bool,
      (if a then (1 : Byte) else 0) ||| (if b then 2 else 0) =
        BitVec.ofNat 8 ((if a = true then 1 else 0) + (if b = true then 2 else 0)) := by decide
  simp only [recordBytes, optionBytes, natByte, hflags, toList_eq_map_finRange, List.map_map]
  rfl

theorem recordBytes_windowRecord (w : WindowRecord) :
    recordBytes (.windowRecord w) =
      [(match w.knowledge with | .unpositioned => (0 : Byte) | .bottomKnown => 1 | .positioned => 2),
        (match w.pTop with | some _ => 1 | none => 0)] ++
        natBytes (w.pTop.getD 0) ++ natBytes w.restPosition ++
        ((List.finRange 32).flatMap fun k =>
          natBytes (w.profile[k]).n ++ [natByte (w.profile[k]).learn]) ++
        [if w.movingMarker = true then 1 else 0] := by
  have hknown : (knowledgeCode w.knowledge).setWidth 8 =
      (match w.knowledge with | .unpositioned => 0 | .bottomKnown => 1 | .positioned => 2 : Byte) := by
    cases w.knowledge <;> rfl
  have htop : (if w.pTop.isSome then (1 : Byte) else 0) = (match w.pTop with | some _ => 1 | none => 0) := by
    cases w.pTop <;> rfl
  simp only [recordBytes, windowBytes, hknown, htop, toList_eq_map_finRange, List.flatMap_map]

end Sys2Proof.Machine

/-- Settles O60: marks, the two ends of a write, torn and stored records, and the bytes of the check. -/
theorem settingsRows : Obligations.SettingsRows := by
  refine ⟨fun r s => ⟨markRecord_of_mem s r, markRecord_of_not_mem r s⟩, fun s ho => ⟨?_, ?_⟩, ?_, ?_, ?_⟩
  · intro r rest hw hs contents
    have hcontents : contents = recordNow r s := by cases r <;> rfl
    rw [nvmWriteStart_of_head ho hw hs, hcontents]
  · intro w ok hw s1 code s2
    have hcode : code = recordByte w.contents.name := by
      simp only [code]
      cases w.contents <;> rfl
    have hs2 : s2 = writeOver w ok s := by
      simp only [s2, hcode]
      rfl
    rw [nvmWriteEnd_of_write ok ho hw, hs2]
    refine ⟨fun hn => ?_, fun a ha hr hs => ?_⟩
    · rw [answerWrite_of_none _ _ _ fun a ha => hn a ((writeOver_awaited w ok s).symm.trans ha)]
    · rw [answerWrite_of_awaited _ _ _ a ((writeOver_awaited w ok s).trans ha) hr hs, writeOver_straps]
  · exact fun s => ⟨fun h => by rw [tornStore, h], fun w h => by rw [tornStore, h]⟩
  · intro st ok c check
    refine ⟨?_, ?_, ?_⟩
    · rintro o rfl
      rfl
    · rintro w rfl
      rfl
    · rintro f e rfl
      rfl
  · intro c two bytes
    have hbytes : recordBytes c = bytes := by
      cases c with
      | optionSet o => exact recordBytes_optionSet o
      | windowRecord w => exact recordBytes_windowRecord w
      | fobEntry f e => rfl
    rw [recordCheck, hbytes]

end

section
/-! SUPPORT. The codes of section 1.9 and their inverses, and the STATE payload. -/

open Sys2Proof Sys2Proof.Machine Sys2Proof.Safety Sys2Proof.Claims

namespace Sys2Proof.Machine

/-! ## Codes -/

@[simp] theorem latchPosOf_latchPosCode (p : LatchPos) : latchPosOf (latchPosCode p) = some p := by cases p <;> rfl
@[simp] theorem latchTargetOf_latchTargetCode (t : LatchTarget) : latchTargetOf (latchTargetCode t) = some t := by
  cases t <;> rfl
@[simp] theorem windowClassOf_windowClassCode (c : WindowClass) : windowClassOf (windowClassCode c) = some c := by
  cases c <;> rfl
@[simp] theorem knowledgeOf_knowledgeCode (k : Knowledge) : knowledgeOf (knowledgeCode k) = some k := by
  cases k <;> rfl
@[simp] theorem refusalOf_refusalCode (r : RefusalCode) : refusalOf (refusalCode r) = some r := by cases r <;> rfl
@[simp] theorem verdictOf_verdictCode (v : Verdict) : verdictOf (verdictCode v) = some v := by
  cases v with
  | none | notFound | inside => rfl
  | outsideAt d => revert d; decide
  | outsideNear d => revert d; decide

theorem latchPosCode_of_latchPosOf : ∀ c, ∀ p ∈ latchPosOf c, latchPosCode p = c := by decide
theorem latchTargetCode_of_latchTargetOf : ∀ c, ∀ t ∈ latchTargetOf c, latchTargetCode t = c := by decide
theorem windowClassCode_of_windowClassOf : ∀ c, ∀ w ∈ windowClassOf c, windowClassCode w = c := by decide
theorem knowledgeCode_of_knowledgeOf : ∀ c, ∀ k ∈ knowledgeOf c, knowledgeCode k = c := by decide
theorem refusalCode_of_refusalOf : ∀ c, ∀ r ∈ refusalOf c, refusalCode r = c := by decide
theorem verdictCode_of_verdictOf : ∀ c, ∀ v ∈ verdictOf c, verdictCode v = c := by decide

@[simp] theorem subtypeOf_subtypeCode (k : Subtype) : subtypeOf (subtypeCode k) = some k := by cases k <;> rfl
@[simp] theorem windowActionOf_windowActionCode (a : WindowAction) :
    windowActionOf (windowActionCode a) = some a := by cases a <;> rfl
@[simp] theorem zoneOf_zoneCode (z : Zone) : zoneOf (zoneCode z) = some z := by cases z <;> rfl

/-- A listed window percent (section 1.9). -/
theorem percentListed_iff (b : Byte) : percentListed b = true ↔ b.toNat ≤ 100 ∨ b = 255 := by
  simp [percentListed]

/-- A listed central action source (section 1.9). -/
theorem sourceListed_iff (b : Byte) : sourceListed b = true ↔ b.toNat ≤ 13 ∨ b = 255 := by
  simp [sourceListed]

/-- A listed search number (section 1.9). -/
theorem searchNumberListed_iff (x : Byte) : searchNumberListed x = true ↔ numbered x := by
  have h : x.extractLsb' 0 5 ≠ 0 ↔ x.toNat % 32 ≠ 0 := by
    rw [ne_eq, ← BitVec.toNat_inj]
    simp
  simp [searchNumberListed, numbered, ← h]

/-! ## Halves of a byte -/

@[simp] theorem halves_high (hi lo : BitVec 4) : (halves hi lo).extractLsb' 4 4 = hi :=
  BitVec.extractLsb'_append_eq_left

@[simp] theorem halves_low (hi lo : BitVec 4) : (halves hi lo).extractLsb' 0 4 = lo :=
  BitVec.extractLsb'_append_eq_right

theorem halves_of_byte (b : Byte) : halves (b.extractLsb' 4 4) (b.extractLsb' 0 4) = b := by
  revert b; decide +kernel

/-- The flags byte of a STATE, bit by bit. -/
theorem stateFlags_bits (c : StateContents) :
    (stateFlags c).extractLsb' 5 3 = 0 ∧ (stateFlags c).getLsbD 0 = c.doorOpen ∧
    (stateFlags c).getLsbD 1 = c.sleeping ∧ (stateFlags c).getLsbD 2 = c.crashHold ∧
    (stateFlags c).getLsbD 3 = c.childOn ∧ (stateFlags c).getLsbD 4 = c.joining := by
  have h : ∀ a b d e f : Bool,
      let x : Byte := (0 : BitVec 3) ++ BitVec.ofBool a ++ BitVec.ofBool b ++ BitVec.ofBool d ++
        BitVec.ofBool e ++ BitVec.ofBool f
      x.extractLsb' 5 3 = 0 ∧ x.getLsbD 0 = f ∧ x.getLsbD 1 = e ∧ x.getLsbD 2 = d ∧ x.getLsbD 3 = b ∧
        x.getLsbD 4 = a := by decide
  exact h ..

/-- A flags byte with its upper three bits clear is that of its own bits. -/
theorem flags_of_bits (b : Byte) (h : b.extractLsb' 5 3 = 0) :
    (0 : BitVec 3) ++ BitVec.ofBool (b.getLsbD 4) ++ BitVec.ofBool (b.getLsbD 3) ++
      BitVec.ofBool (b.getLsbD 2) ++ BitVec.ofBool (b.getLsbD 1) ++ BitVec.ofBool (b.getLsbD 0) = b := by
  revert b; decide +kernel

/-! ## The STATE payload (section 1.9) -/

/-- A payload of listed contents decodes to them. -/
theorem decodeState_encodeState (c : StateContents) (hp : c.percent.toNat ≤ 100 ∨ c.percent = 255)
    (hs : c.source.toNat ≤ 13 ∨ c.source = 255) : decodeState (encodeState c) = some c := by
  obtain ⟨hzero, h0, h1, h2, h3, h4⟩ := stateFlags_bits c
  have hsummary : c.summary.extractLsb' 8 8 ++ c.summary.extractLsb' 0 8 = c.summary :=
    BitVec.extractLsb'_append_extractLsb' (w := 8) (len := 8)
  have hlisted : (percentListed c.percent && sourceListed c.source) = true := by
    simp [(percentListed_iff _).2 hp, (sourceListed_iff _).2 hs]
  simp only [decodeState, encodeState, halves_high, halves_low, latchPosOf_latchPosCode,
    latchTargetOf_latchTargetCode, windowClassOf_windowClassCode, knowledgeOf_knowledgeCode,
    verdictOf_verdictCode, refusalOf_refusalCode, Option.bind_eq_bind, Option.bind_some, hzero, h0, h1, h2,
    h3, h4, hsummary, Bool.and_assoc, hlisted]
  rfl

/-- A payload that decodes has nine bytes, and is that of the contents it decodes to. -/
theorem encodeState_of_decodeState {p : List Byte} {c : StateContents} (h : decodeState p = some c) :
    encodeState c = p ∧ (c.percent.toNat ≤ 100 ∨ c.percent = 255) ∧ (c.source.toNat ≤ 13 ∨ c.source = 255) := by
  unfold decodeState at h
  split at h
  · simp only [Option.bind_eq_bind, Option.bind_eq_some_iff] at h
    obtain ⟨observed, ho, target, ht, window, hw, knowledge, hk, verdict, hv, refusal, hr, h⟩ := h
    split at h
    · next flags b1 b2 percent source sequence s1 s0 b8 hlisted =>
      obtain rfl := Option.some.inj h
      simp only [Bool.and_eq_true, decide_eq_true_eq, percentListed_iff, sourceListed_iff] at hlisted
      obtain ⟨⟨hflags, hpercent⟩, hsource⟩ := hlisted
      refine ⟨?_, hpercent, hsource⟩
      simp only [encodeState, stateFlags, flags_of_bits flags hflags, latchPosCode_of_latchPosOf _ _ ho,
        latchTargetCode_of_latchTargetOf _ _ ht, windowClassCode_of_windowClassOf _ _ hw,
        knowledgeCode_of_knowledgeOf _ _ hk, verdictCode_of_verdictOf _ _ hv,
        refusalCode_of_refusalOf _ _ hr, halves_of_byte]
      rw [BitVec.extractLsb'_append_eq_left, BitVec.extractLsb'_append_eq_right]
    · exact absurd h (by simp)
  · exact absurd h (by simp)

theorem decodeState_iff (p : List Byte) (c : StateContents) :
    decodeState p = some c ↔
      encodeState c = p ∧ (c.percent.toNat ≤ 100 ∨ c.percent = 255) ∧
        (c.source.toNat ≤ 13 ∨ c.source = 255) :=
  ⟨encodeState_of_decodeState, fun ⟨hp, hpercent, hsource⟩ => hp ▸ decodeState_encodeState c hpercent hsource⟩

end Sys2Proof.Machine

end

section
/-! SUPPORT. What the dispatcher reads of every kind of telegram, and what it discards (section 1.9, R18). -/

open Sys2Proof Sys2Proof.Machine Sys2Proof.Safety Sys2Proof.Claims

namespace Sys2Proof.Machine

/-! ## Bytes that name a code -/

theorem subtypeOf_isSome_iff : ∀ b : Byte, (subtypeOf b).isSome = true ↔ 1 ≤ b.toNat ∧ b.toNat ≤ 4 := by
  decide +kernel
theorem zoneOf_isSome_iff : ∀ b : Byte, (zoneOf b).isSome = true ↔ 1 ≤ b.toNat ∧ b.toNat ≤ 3 := by decide +kernel
theorem windowActionOf_isSome_iff :
    ∀ b : Byte, (windowActionOf b).isSome = true ↔ 1 ≤ b.toNat ∧ b.toNat ≤ 5 := by decide +kernel
theorem ignitionOf_isSome_iff : ∀ b : Byte, (ignitionOf b).isSome = true ↔ b.toNat ≤ 3 := by decide +kernel

/-- Bits 5 to 7 of a target set (section 1.9). -/
theorem upperThree_eq_zero_iff : ∀ b : Byte, b.extractLsb' 5 3 = 0#3 ↔ b.toNat < 32 := by decide +kernel
/-- Bits 6 and 7 of a slot set (section 1.9). -/
theorem upperTwo_eq_zero_iff : ∀ b : Byte, b.extractLsb' 6 2 = 0#2 ↔ b.toNat < 64 := by decide +kernel

/-- A fob byte with a command other than SEARCH REPLY (section 1.9). -/
theorem decodeFobByte_button_iff :
    ∀ b : Byte, (∃ x ∈ decodeFobByte b, x.2 ≠ .searchReply) ↔
      b.toNat / 16 % 4 = 0 ∧ 1 ≤ b.toNat % 16 ∧ b.toNat % 16 ≤ 5 := by decide +kernel
theorem decodeFobByte_reply_iff :
    ∀ b : Byte, (∃ x ∈ decodeFobByte b, x.2 = .searchReply) ↔ b.toNat / 16 % 4 = 0 ∧ b.toNat % 16 = 6 := by
  decide +kernel

/-! ## Payloads that are read (R18) -/

section
variable (n : Fin 8) (p : List Byte)

theorem readCrash_iff : readStationKind 1 n p ≠ .discarded ↔ ∃ x : Byte, p = [x] ∧ x ≠ 0 := by
  change (match p with | [x] => if x = 0 then Message.discarded else .crash n x | _ => .discarded) ≠ _ ↔ _
  split
  · next x => by_cases hx : x = 0 <;> simp [hx]
  · next h => simpa using fun x hx => absurd hx (h x)

theorem readPinch_iff :
    readStationKind 2 n p ≠ .discarded ↔
      ∃ m w : Byte, p = [m, w] ∧ m.toNat ≤ 3 ∧ (w.toNat ≤ 100 ∨ w = 255) := by
  simp only [← percentListed_iff]
  change (match p with
    | [m, w] => if m.toNat ≤ 3 ∧ percentListed w = true then Message.pinch n else .discarded
    | _ => .discarded) ≠ _ ↔ _
  split
  · next m w => simp
  · next h => simpa using fun m w hp => absurd hp (h m w)

theorem readLockreq_iff :
    readLockreq n p ≠ .discarded ↔
      (∃ a c q : Byte, p = [a, c, q] ∧
        (((c = 1 ∨ c = 2) ∧ 1 ≤ a.toNat ∧ a.toNat ≤ 3) ∨ (c = 4 ∧ (a = 4 ∨ a = 5)))) ∨
      ∃ a q x : Byte, p = [a, 3, q, x] ∧ 1 ≤ a.toNat ∧ a.toNat ≤ 3 ∧ numbered x := by
  have haction : ∀ a : Byte, 1 ≤ a.toNat ∧ a.toNat ≤ 3 ↔ a = 1#8 ∨ a = 2#8 ∨ a = 3#8 := by decide +kernel
  simp only [haction]
  unfold readLockreq
  split
  · next a c q =>
    by_cases h4 : c = 4#8
    · by_cases ha4 : a = 4#8 <;> by_cases ha5 : a = 5#8 <;> simp [h4, ha4, ha5]
    · by_cases hc : c = 1#8 ∨ c = 2#8
      · by_cases h1 : a = 1#8 <;> by_cases h2 : a = 2#8 <;> by_cases h3 : a = 3#8 <;> simp [h4, hc, h1, h2, h3]
      · simp [h4, hc]
  · next a c q x =>
    by_cases ha : a = 1#8 ∨ a = 2#8 ∨ a = 3#8
    · rcases ha with rfl | rfl | rfl <;> simp [searchNumberListed_iff]
    · have hrange : ¬ (1 ≤ a.toNat ∧ a.toNat ≤ 3) := mt (haction a).1 ha
      rw [not_or, not_or] at ha
      obtain ⟨h1, h2, h3⟩ := ha
      simpa [h1, h2, h3] using fun _ hl hu => absurd ⟨hl, hu⟩ hrange
  · next h3 h4 => simpa using ⟨fun a c q hp => absurd hp (h3 a c q), fun a q x hp => absurd hp (h4 a 3 q x)⟩

theorem readWindowreq_iff :
    readWindowreq n p ≠ .discarded ↔
      ∃ set a q : Byte, p = [set, a, q] ∧ set.toNat < 32 ∧ 1 ≤ a.toNat ∧ a.toNat ≤ 5 := by
  unfold readWindowreq
  split
  · next set a q =>
    have ha := windowActionOf_isSome_iff a
    cases h : windowActionOf a <;> simp_all [upperThree_eq_zero_iff]
  · next h => simpa using fun a c q hp => absurd hp (h a c q)

theorem readSearch_iff :
    readSearch n p ≠ .discarded ↔
      ∃ x z set : Byte, p = [x, z, set] ∧ numbered x ∧ 1 ≤ z.toNat ∧ z.toNat ≤ 3 ∧ set.toNat < 64 := by
  unfold readSearch
  split
  · next x z set => simp [searchNumberListed_iff, zoneOf_isSome_iff, upperTwo_eq_zero_iff, and_assoc]
  · next h => simpa using fun a c q hp => absurd hp (h a c q)

theorem decodeFobReport_iff :
    (decodeFobReport p).isSome = true ↔
      ∃ (x b c2 c1 c0 : Byte) (rest : List Byte), p = x :: b :: c2 :: c1 :: c0 :: rest ∧
        b.toNat / 16 % 4 = 0 ∧
        ((x = 0 ∧ 1 ≤ b.toNat % 16 ∧ b.toNat % 16 ≤ 5 ∧ rest.length = 4) ∨
         (x ≠ 0 ∧ numbered x ∧ b.toNat % 16 = 6 ∧ rest.length = 10)) := by
  unfold decodeFobReport
  split
  · next x b c2 c1 c0 t3 t2 t1 t0 =>
    have hb := decodeFobByte_button_iff b
    cases h : decodeFobByte b with
    | none => simp_all
    | some y => simp_all; tauto
  · next x b c2 c1 c0 r0 r1 r2 r3 r4 r5 t3 t2 t1 t0 =>
    have hb := decodeFobByte_reply_iff b
    cases h : decodeFobByte b with
    | none => simp_all
    | some y => simp_all [searchNumberListed_iff]; tauto
  · next h9 h15 =>
    refine ⟨nofun, fun ⟨x, b, c2, c1, c0, rest, hp, _, hlen⟩ => ?_⟩
    rcases hlen with ⟨-, -, -, hlen⟩ | ⟨-, -, -, hlen⟩
    · match rest, hlen with
      | [t3, t2, t1, t0], _ => exact (h9 _ _ _ _ _ _ _ _ _ hp).elim
    · match rest, hlen with
      | [r0, r1, r2, r3, r4, r5, t3, t2, t1, t0], _ => exact (h15 _ _ _ _ _ _ _ _ _ _ _ _ _ _ _ hp).elim

theorem readFobreport_iff :
    readStationKind 6 n p ≠ .discarded ↔ (decodeFobReport p).isSome = true := by
  change (match decodeFobReport p with | some r => Message.fobReport n r | none => .discarded) ≠ _ ↔ _
  cases decodeFobReport p <;> simp

theorem readState_iff :
    readStationKind 8 n p ≠ .discarded ↔
      ∃ c : StateContents, p = encodeState c ∧ (c.percent.toNat ≤ 100 ∨ c.percent = 255) ∧
        (c.source.toNat ≤ 13 ∨ c.source = 255) := by
  change (match decodeState p with | some c => Message.state n c | none => .discarded) ≠ _ ↔ _
  have hp := decodeState_iff p
  cases h : decodeState p with
  | some c => exact ⟨fun _ => ⟨c, ((hp c).1 h).imp_left Eq.symm⟩, fun _ => nofun⟩
  | none =>
    refine ⟨fun hne => absurd rfl hne, fun ⟨c, hc, hlisted⟩ => ?_⟩
    exact absurd (h.symm.trans ((hp c).2 ⟨hc.symm, hlisted⟩)) nofun

theorem readFault_iff :
    readStationKind 9 n p ≠ .discarded ↔
      ∃ k d0 d1 d2 m t1 t0 : Byte, p = [k, d0, d1, d2, m, t1, t0] ∧ k.toNat ≤ 15 ∧ m.toNat ≤ 15 := by
  change (match p with
    | [k, _, _, _, more, _, _] => if k.toNat ≤ 15 ∧ more.toNat ≤ 15 then Message.fault n else .discarded
    | _ => .discarded) ≠ _ ↔ _
  split
  · simp
  · next h => simpa using fun k d0 d1 d2 m t1 t0 hp => absurd hp (h k d0 d1 d2 m t1 t0)

theorem readServiceack_iff :
    readStationKind 11 n p ≠ .discarded ↔
      ∃ k r : Byte, p = [k, r] ∧ 1 ≤ k.toNat ∧ k.toNat ≤ 4 ∧ 1 ≤ r.toNat ∧ r.toNat ≤ 4 := by
  change (match p with
    | [sub, result] =>
      if (subtypeOf sub).isSome = true ∧ 1 ≤ result.toNat ∧ result.toNat ≤ 4 then Message.serviceack n
      else .discarded
    | _ => .discarded) ≠ _ ↔ _
  split
  · next k r => simp [subtypeOf_isSome_iff, and_assoc]
  · next h => simpa using fun k r hp => absurd hp (h k r)

/-- A SERVICE with as many argument bytes as its subtype has (R18). -/
theorem readService_iff (p : List Byte) :
    readService p ≠ .discarded ↔
      ∃ (k station : Byte) (args : List Byte), p = k :: station :: args ∧ station.toNat ≤ 4 ∧
        ((k = 1 ∧ args.length = 8) ∨ (k = 2 ∧ args.length = 10) ∨ ((k = 3 ∨ k = 4) ∧ args.length = 0)) := by
  unfold readService
  split
  · next k station args =>
    unfold subtypeOf
    by_cases h1 : k = 1#8
    · simp [h1, and_comm]
    by_cases h2 : k = 2#8
    · simp [h2, and_comm]
    by_cases h3 : k = 3#8
    · simp [h3, and_comm]
    by_cases h4 : k = 4#8
    · simp [h4, and_comm]
    · simp [h1, h2, h3, h4]
  · next h => simpa using fun k station args hp => absurd hp (h k station args)

/-- The kinds that stations send, and the others (section 1.9). -/
theorem kind_cases : ∀ k : BitVec 4,
    (k = 1 ∨ k = 2 ∨ k = 3 ∨ k = 4 ∨ k = 5 ∨ k = 6 ∨ k = 8 ∨ k = 9 ∨ k = 11) ∨
      k = 0 ∨ k = 7 ∨ k = 10 ∨ k = 12 ∨ k = 13 ∨ k = 14 ∨ k = 15 := by decide

/-- The telegrams of the kinds that stations send are read where they are listed (R18). -/
theorem readStationKind_iff (t : Telegram) : readStationKind t.kind n t.payload ≠ .discarded ↔ listed t := by
  obtain ⟨kind, sender, p⟩ := t
  rcases kind_cases kind with (rfl | rfl | rfl | rfl | rfl | rfl | rfl | rfl | rfl) | hother
  · simpa [listed] using readCrash_iff n p
  · simpa [listed] using readPinch_iff n p
  · change readLockreq n p ≠ _ ↔ _
    simpa [listed] using readLockreq_iff n p
  · change readWindowreq n p ≠ _ ↔ _
    simpa [listed] using readWindowreq_iff n p
  · change readSearch n p ≠ _ ↔ _
    simpa [listed] using readSearch_iff n p
  · simpa [listed] using (readFobreport_iff n p).trans (decodeFobReport_iff p)
  · simpa [listed] using readState_iff n p
  · simpa [listed] using readFault_iff n p
  · simpa [listed] using readServiceack_iff n p
  · rcases hother with rfl | rfl | rfl | rfl | rfl | rfl | rfl <;>
      exact iff_of_false (fun h => h rfl) (by simp [listed])

end

/-! ## The dispatcher's reading (R18) -/

/-- The nodes by what they send: stations, no node, the vehicle node, the tool (section 1.1). -/
theorem node_cases : ∀ n : BitVec 3, n.toNat ≤ 4 ∨ n = 5 ∨ n = 6 ∨ n = 7 := by decide

theorem readTelegram_of_own {own : Fin 8} {t : Telegram} (h : t.sender.toFin = own) :
    readTelegram own t = .discarded := if_pos (.inr h)

theorem readTelegram_of_nobody {own : Fin 8} {t : Telegram} (h : t.sender = 5) :
    readTelegram own t = .discarded := if_pos (.inl (congrArg BitVec.toFin h))

/-- A telegram of another station is read by its kind. -/
theorem readTelegram_of_station {own : Fin 8} {t : Telegram} (hn : t.sender.toNat ≤ 4)
    (ho : t.sender.toFin ≠ own) : readTelegram own t = readStationKind t.kind t.sender.toFin t.payload := by
  obtain ⟨kind, sender, p⟩ := t
  have hne : ∀ n : BitVec 3, n.toNat ≤ 4 → (n.toFin : Fin 8) ≠ 5 ∧ (n.toFin : Fin 8) ≠ 6 ∧ (n.toFin : Fin 8) ≠ 7 := by
    decide
  obtain ⟨h5, h6, h7⟩ := hne sender hn
  unfold readTelegram
  rw [if_neg (not_or_intro h5 ho), if_neg h6, if_neg h7, if_neg (not_or_intro h6 h7)]
  split
  · next hk => cases hk; rfl
  split
  · next hk => cases hk; rfl
  · rfl

/-- The vehicle node sends VEHICLE alone (section 1.9). -/
theorem readTelegram_of_vehicleNode {own : Fin 8} {t : Telegram} (hn : t.sender = 6) (ho : own ≠ 6) :
    readTelegram own t ≠ .discarded ↔ t.kind = 7 ∧ ∃ v i : Byte, t.payload = [v, i] ∧ i.toNat ≤ 3 := by
  obtain ⟨kind, sender, p⟩ := t
  obtain rfl : sender = 6 := hn
  have hother : ¬ ((6 : BitVec 3).toFin = (5 : Fin 8) ∨ (6 : BitVec 3).toFin = own) :=
    not_or_intro (by decide) ho.symm
  unfold readTelegram
  dsimp only
  rw [if_neg hother]
  by_cases hk : kind = kVehicle
  · rw [if_pos hk, if_pos (show (6 : BitVec 3).toFin = 6 by decide)]
    split
    · next v i =>
      have hi := ignitionOf_isSome_iff i
      cases h : ignitionOf i <;> simp_all [kVehicle]
    · next h => simpa [hk, kVehicle] using fun v i hp => absurd hp (h v i)
  · rw [if_neg hk]
    refine iff_of_false (fun h => h ?_) fun h => hk h.1
    split
    · rfl
    · rfl

/-- The tool sends SERVICE alone (section 1.9). -/
theorem readTelegram_of_tool {own : Fin 8} {t : Telegram} (hn : t.sender = 7) (ho : own ≠ 7) :
    readTelegram own t ≠ .discarded ↔
      t.kind = 10 ∧ ∃ (k station : Byte) (args : List Byte), t.payload = k :: station :: args ∧
        station.toNat ≤ 4 ∧
        ((k = 1 ∧ args.length = 8) ∨ (k = 2 ∧ args.length = 10) ∨ ((k = 3 ∨ k = 4) ∧ args.length = 0)) := by
  obtain ⟨kind, sender, p⟩ := t
  obtain rfl : sender = 7 := hn
  have hother : ¬ ((7 : BitVec 3).toFin = (5 : Fin 8) ∨ (7 : BitVec 3).toFin = own) :=
    not_or_intro (by decide) ho.symm
  unfold readTelegram
  dsimp only
  rw [if_neg hother]
  by_cases hk : kind = kService
  · rw [if_neg (by rw [hk]; decide), if_pos hk, if_pos (show (7 : BitVec 3).toFin = 7 by decide),
      readService_iff]
    simp [hk, kService]
  · refine iff_of_false (fun h => h ?_) fun h => hk h.1
    split
    · rfl
    · rfl

/-- A telegram is discarded unless another node that sends its kind sent a listed payload (R18). -/
theorem readTelegram_iff (own : Fin 8) (t : Telegram) : readTelegram own t ≠ .discarded ↔ handedOn own t := by
  by_cases ho : t.sender.toFin = own
  · exact iff_of_false (fun h => h (readTelegram_of_own ho)) fun h => h.1 ho
  unfold handedOn
  rcases node_cases t.sender with hn | hn | hn | hn
  · have h6 : t.sender ≠ 6 := fun h => by simp [h] at hn
    have h7 : t.sender ≠ 7 := fun h => by simp [h] at hn
    rw [readTelegram_of_station hn ho, readStationKind_iff]
    simp only [ne_eq, ho, not_false_eq_true, hn, h6, h7, true_and, false_and, or_false]
  · refine iff_of_false (fun h => h (readTelegram_of_nobody hn)) ?_
    simp [hn]
  · rw [readTelegram_of_vehicleNode hn (fun h => ho (by rw [hn, h]; rfl))]
    refine ⟨fun h => ⟨ho, .inr (.inl ⟨hn, h⟩)⟩, ?_⟩
    rintro ⟨-, ⟨h, -⟩ | ⟨-, h⟩ | ⟨h, -⟩⟩
    · simp [hn] at h
    · exact h
    · simp [hn] at h
  · rw [readTelegram_of_tool hn (fun h => ho (by rw [hn, h]; rfl))]
    refine ⟨fun h => ⟨ho, .inr (.inr ⟨hn, h⟩)⟩, ?_⟩
    rintro ⟨-, ⟨h, -⟩ | ⟨h, -⟩ | ⟨-, h⟩⟩
    · simp [hn] at h
    · simp [hn] at h
    · exact h

/-! ## The payloads of the vehicle node and of the tool -/

theorem readTelegram_vehicle {own : Fin 8} (ho : own ≠ 6) (v : Byte) {b : Byte} {i : Ignition}
    (h : ignitionOf b = some i) : readTelegram own ⟨7, 6, [v, b]⟩ = .vehicle v i := by
  refine (if_neg (not_or_intro (show ¬ (6 : BitVec 3).toFin = 5 by decide) ho.symm)).trans ?_
  change (match ignitionOf b with | some i => Message.vehicle v i | none => .discarded) = _
  rw [h]

theorem readTelegram_service {own : Fin 8} (ho : own ≠ 7) (p : List Byte) :
    readTelegram own ⟨10, 7, p⟩ = readService p :=
  if_neg (not_or_intro (show ¬ (7 : BitVec 3).toFin = 5 by decide) ho.symm)

theorem readService_of_length (k : Subtype) (station : Byte) (args : List Byte) (hs : station.toNat ≤ 4)
    (h : args.length = (match k with | .enrol => 8 | .option => 10 | .clearfault => 0 | .forgetWindow => 0)) :
    readService (subtypeCode k :: station :: args) = .service k station args := by
  simp only [readService, subtypeOf_subtypeCode]
  exact if_pos ⟨h.trans (by cases k <;> rfl), hs⟩

/-! ## The payloads of the stations -/

section
variable (n : Fin 8)

theorem readCrash_of_number {x : Byte} (h : x ≠ 0) : readStationKind 1 n [x] = .crash n x := if_neg h

theorem readPinch_of_move (k : MoveKind) {w : Byte} (h : w.toNat ≤ 100 ∨ w = 255) :
    readStationKind 2 n [moveKindCode k, w] = .pinch n :=
  (if_pos ⟨by cases k <;> decide, (percentListed_iff w).2 h⟩ :
    (if (moveKindCode k).toNat ≤ 3 ∧ percentListed w = true then Message.pinch n else .discarded) = _)

theorem readLockreq_of_central (a : CentralAction) {c : LockCause} (q x : Byte)
    (h : c = .insideButton ∨ c = .keyCylinder) :
    readLockreq n (lockreqPayload a c q x) = .central n a c q 0 := by
  rcases h with rfl | rfl <;> cases a <;> rfl

theorem readLockreq_of_keyless (a : CentralAction) (q : Byte) {x : Byte} (h : numbered x) :
    readLockreq n (lockreqPayload a .keyless q x) = .central n a .keyless q x := by
  cases a <;> exact if_pos ⟨rfl, (searchNumberListed_iff x).2 h⟩

theorem readWindowreq_of_action (set : BitVec 5) (a : WindowAction) (q : Byte) :
    readWindowreq n [set.setWidth 8, windowActionCode a, q] = .windowreq n (set.setWidth 8) a q := by
  have hset : ∀ set : BitVec 5, (set.setWidth 8).extractLsb' 5 3 = 0#3 := by decide
  simp only [readWindowreq, windowActionOf_windowActionCode]
  exact if_pos (hset set)

theorem readSearch_of_zone {x : Byte} (z : Zone) (set : BitVec 6) (h : numbered x) :
    readSearch n [x, zoneCode z, set.setWidth 8] = .search n x set := by
  have hset : ∀ set : BitVec 6, (set.setWidth 8).extractLsb' 6 2 = 0#2 ∧ (set.setWidth 8).extractLsb' 0 6 = set := by
    decide
  obtain ⟨hupper, hlower⟩ := hset set
  refine (if_pos ⟨(searchNumberListed_iff x).2 h, by simp, hupper⟩).trans ?_
  rw [hlower]

theorem readFobreport_of_decode {p : List Byte} {r : FobReport} (h : decodeFobReport p = some r) :
    readStationKind 6 n p = .fobReport n r := by
  change (match decodeFobReport p with | some r => Message.fobReport n r | none => .discarded) = _
  rw [h]

theorem readState_of_contents (c : StateContents) (hp : c.percent.toNat ≤ 100 ∨ c.percent = 255)
    (hs : c.source.toNat ≤ 13 ∨ c.source = 255) : readStationKind 8 n (encodeState c) = .state n c := by
  change (match decodeState (encodeState c) with | some c => Message.state n c | none => .discarded) = _
  rw [decodeState_encodeState c hp hs]

theorem readFault_of_record (r : FaultRecord) (h : r.more ≤ 15) :
    readStationKind 9 n (faultPayload r) = .fault n := by
  have hcode : (BitVec.ofNat 8 (faultCode r.kind)).toNat ≤ 15 := by cases r.kind <;> decide
  have hmore : (BitVec.ofNat 8 r.more).toNat ≤ 15 := by rw [BitVec.toNat_ofNat]; omega
  change (if _ ∧ _ then Message.fault n else .discarded) = _
  exact if_pos ⟨hcode, hmore⟩

theorem readServiceack_of_result (k : Subtype) {r : Byte} (h1 : 1 ≤ r.toNat) (h4 : r.toNat ≤ 4) :
    readStationKind 11 n [subtypeCode k, r] = .serviceack n := by
  change (if _ ∧ 1 ≤ r.toNat ∧ r.toNat ≤ 4 then Message.serviceack n else .discarded) = _
  exact if_pos ⟨by simp, h1, h4⟩

end

/-! ## Fob reports (section 1.9) -/

section
variable {b : Byte} {f : Fin 4} {command : FobCommand} (hb : decodeFobByte b = some (f, command))
  (c2 c1 c0 t3 t2 t1 t0 : Byte)
include hb

theorem decodeFobReport_of_button (h : command ≠ .searchReply) :
    decodeFobReport [0, b, c2, c1, c0, t3, t2, t1, t0] =
      some
        { search := 0, fob := f, command := command, fobByte := b, counter := c2 ++ c1 ++ c0
          readings := [], tag := t3 ++ t2 ++ t1 ++ t0 } := by
  simp only [decodeFobReport, hb, Option.bind_eq_bind, Option.bind_some]
  exact if_pos (by simp [h])

theorem decodeFobReport_of_reply {x : Byte} (r0 r1 r2 r3 r4 r5 : Byte) (h : command = .searchReply) (h0 : x ≠ 0)
    (hx : numbered x) :
    decodeFobReport [x, b, c2, c1, c0, r0, r1, r2, r3, r4, r5, t3, t2, t1, t0] =
      some
        { search := x, fob := f, command := command, fobByte := b, counter := c2 ++ c1 ++ c0
          readings := [r0, r1, r2, r3, r4, r5], tag := t3 ++ t2 ++ t1 ++ t0 } := by
  simp only [decodeFobReport, hb, Option.bind_eq_bind, Option.bind_some]
  exact if_pos (by simpa [h, (searchNumberListed_iff x).2 hx] using h0)

end

end Sys2Proof.Machine

/-- Settles O14: what is discarded, and each payload read back at a peer. -/
theorem payloadsReadBack : Obligations.PayloadsReadBack := by
  refine ⟨readTelegram_iff, fun own => ⟨fun v i ho => ?_, fun k station args ho hs hlen => ?_⟩, ?_,
    fun own n hn ho => ?_⟩
  · exact readTelegram_vehicle ho v (by cases i <;> rfl)
  · rw [readTelegram_service ho]
    exact readService_of_length k station args hs (hlen.trans (by cases k <;> rfl))
  · refine ⟨rfl, rfl, rfl, rfl, rfl, fun a c q x => ?_, rfl⟩
    cases a <;> rfl
  · have hread (k : BitVec 4) (p : List Byte) : readTelegram own ⟨k, n, p⟩ = readStationKind k n.toFin p :=
      readTelegram_of_station (t := ⟨k, n, p⟩) hn ho
    refine ⟨fun x h => (hread ..).trans (readCrash_of_number _ h),
      fun k w h => (hread ..).trans (readPinch_of_move _ k h),
      fun a c q x h => (hread ..).trans (readLockreq_of_central _ a q x h),
      fun a q x h => (hread ..).trans (readLockreq_of_keyless _ a q h),
      fun q => ⟨hread .., hread ..⟩,
      fun set a q => (hread ..).trans (readWindowreq_of_action _ set a q),
      fun x z set h => (hread ..).trans (readSearch_of_zone _ z set h),
      fun f k c2 c1 c0 t3 t2 t1 t0 => ?_,
      fun c hp hs => (hread ..).trans (readState_of_contents _ c hp hs),
      fun r h => (hread ..).trans (readFault_of_record _ r h),
      fun k r h1 h4 => (hread ..).trans (readServiceack_of_result _ k h1 h4)⟩
    intro command b
    obtain ⟨hb, hreply⟩ : decodeFobByte b = some (f.toFin, command) ∧ (command = .searchReply ↔ k = 5) := by
      simp only [b, command]
      revert f k
      decide
    exact ⟨fun hk => (hread ..).trans <| readFobreport_of_decode _
        (decodeFobReport_of_button hb c2 c1 c0 t3 t2 t1 t0 (mt hreply.1 hk)),
      fun x r0 r1 r2 r3 r4 r5 hk h0 hx => (hread ..).trans <| readFobreport_of_decode _
        (decodeFobReport_of_reply hb c2 c1 c0 t3 t2 t1 t0 r0 r1 r2 r3 r4 r5 (hreply.2 hk) h0 hx)⟩

end

section
/-! SUPPORT. The passing of time: every part of the state after some microseconds (R20 to R22, R31 to R180). -/

open Sys2Proof Sys2Proof.Machine Sys2Proof.Safety Sys2Proof.Claims

namespace Sys2Proof.Machine

/-! ## The blocks -/

theorem latchChopped_iff (l : Latch) :
    latchChopped l = true ↔ l.phase = .regulate ∨ (l.phase = .overtravel ∧ l.resume = .regulate) := by
  simp [latchChopped]

/-- The open-load check runs in DRIVE, and in REGULATE while the bridge is switched on (R59). -/
theorem openLoadChecked_iff (l : Latch) :
    latchDriving l = true ∧ (l.phase = .drive ∨ l.phase = .regulate) ↔
      l.phase = .drive ∨ (l.phase = .regulate ∧ l.chopOn = true) := by
  unfold latchDriving
  cases l.phase <;> simp

theorem phaseTimer_elapseLatch (n : Nat) (l : Latch) :
    (elapseLatch n l).phaseTimer =
      if l.phase = .overtravel then min 20000 (l.phaseTimer + n)
      else if l.phase = .brake then min 50000 (l.phaseTimer + n)
      else if l.phase = .pause then min 500000 (l.phaseTimer + n)
      else l.phaseTimer := by
  dsimp only [elapseLatch]
  cases l.phase <;> rfl

theorem elapseLatch_eq (n : Nat) (l : Latch) : elapseLatch n l = latchAfter n l := by
  have htimer := phaseTimer_elapseLatch n l
  unfold elapseLatch at htimer ⊢
  unfold latchAfter
  dsimp only at htimer ⊢
  rw [htimer]
  simp only [Bool.and_eq_true, Bool.or_eq_true, beq_iff_eq, and_assoc, latchChopped_iff, openLoadChecked_iff]
  rfl

theorem elapseWindow_eq (n : Nat) (w : Window) : elapseWindow n w = windowAfter n w := by
  unfold elapseWindow windowAfter
  simp only [beq_iff_eq, Bool.and_eq_true]
  rfl

theorem elapseLink_eq (asleep : Bool) (n : Nat) (l : Link) :
    elapseLink asleep n l =
      { l with
        isolation := up 1000000 n l.isolation
        dominantFor :=
          if (asleep = false ∧ l.insideTelegram = false) ∧ l.level = .dominant then min 1000 (l.dominantFor + n)
          else l.dominantFor
        recessiveFor :=
          if (asleep = false ∧ l.insideTelegram = false) ∧ l.level = .recessive then
            min 10000 (l.recessiveFor + n)
          else l.recessiveFor } := by
  unfold elapseLink
  cases asleep <;> cases l.insideTelegram <;> cases l.level <;> rfl

/-! ## The layers -/

theorem elapseBase_eq (n : Nat) (s : State) : elapseBase n s = baseAfter n s := by
  unfold elapseBase baseAfter
  rw [elapseLink_eq]
  cases s.power.asleep <;> rfl

theorem elapseTouch_eq (n : Nat) (t : Touch) :
    elapseTouch n t =
      { t with
        electrodes :=
          if t.paused = true then t.electrodes
          else vmap (fun e => { e with touchTime := up 30000000 n e.touchTime }) t.electrodes
        measureElapsed := if t.measuring ≠ none then min 5000 (t.measureElapsed + n) else t.measureElapsed
        scanElapsed := min t.scanLength (t.scanElapsed + n) } := by
  unfold elapseTouch
  cases t.measuring <;> rfl

/-- The timers that run in SLEEP too, with those of the window (R89, R113, R115, R142, R143, R166, R184). -/
theorem elapseAlways_eq (n : Nat) (s : State) (h : operating s = true) :
    elapseWindowPart n (elapseAlways n s) = alwaysAfter n s := by
  have hwindow : hasWindow (elapseAlways n s) = !isTailgate s := (congrArg (· && _) h).trans (Bool.true_and _)
  have htailgate : isTailgate s = true ↔ s.straps.position = 4 := beq_iff_eq
  unfold elapseWindowPart alwaysAfter
  rw [hwindow]
  by_cases hp : s.straps.position = 4
  · rw [htailgate.2 hp, if_pos hp]
    unfold elapseAlways
    rw [elapseTouch_eq]
    cases s.crash.line <;> rfl
  · rw [Bool.eq_false_iff.2 (mt htailgate.1 hp), if_neg hp]
    unfold elapseAlways
    rw [elapseTouch_eq, elapseWindow_eq]
    cases s.crash.line <;> cases s.power.asleep <;> rfl

theorem tDebounce_eq (i : SwitchInput) :
    tDebounce i = if i = .latchSwitch ∨ i = .childSwitch then 5000 else 10000 := by cases i <;> rfl

/-- The timers that run only while AWAKE (R31 to R180). -/
theorem elapseAwake_eq (n : Nat) (s : State) : elapseAwake n s = awakeAfter n s := by
  unfold elapseAwake awakeAfter elapseDebounce elapseWait
  rw [elapseLatch_eq]
  simp only [tDebounce_eq]
  cases s.pins.wakeDebounce <;> cases s.search.wakeWait <;> rfl

/-- What counts with the time (R20 to R22, R31 to R180). -/
theorem elapse_eq (n : Nat) (s : State) : elapse n s = afterTime n s := by
  unfold elapse afterTime
  rw [elapseBase_eq]
  by_cases hr : running s = true
  · rw [hr]
    by_cases ho : operating s = true
    · have hbase : operating (baseAfter n s) = true := ho
      rw [ho]
      dsimp only
      rw [elapseAlways_eq n _ hbase, elapseAwake_eq]
      rfl
    · rw [Bool.not_eq_true] at ho
      rw [ho]
      rfl
  · rw [Bool.not_eq_true] at hr
    rw [hr]
    rfl

end Sys2Proof.Machine
end

section
/-! SUPPORT. The timer events that are due, group by group of the model's list, and the step on an empty queue. -/

open Sys2Proof Sys2Proof.Machine Sys2Proof.Safety Sys2Proof.Claims

namespace Sys2Proof.Machine

/-! ## Timers at their limits -/

theorem mem_dueIf {c i : Instr} {b : Bool} : c ∈ dueIf b i ↔ c = i ∧ b = true := by
  cases b <;> simp [dueIf]

theorem mem_flatMap_dueIf {n : Nat} {c : Instr} {b : Fin n → Bool} {i : Fin n → Instr} :
    (c ∈ (List.finRange n).flatMap fun k => dueIf (b k) (i k)) ↔ ∃ k, c = i k ∧ b k = true := by
  simp [mem_dueIf]

theorem reached_iff (limit : Nat) (t : Option Nat) : reached limit t = true ↔ stands limit t := by
  cases t <;> simp [reached, stands]

theorem ranOut_iff (t : Option Nat) : ranOut t = true ↔ spent t := by
  cases t <;> simp [ranOut, spent]

theorem lifeRanOut_iff (f : Option FilterEntry) : lifeRanOut f = true ↔ spent (f.map (·.life)) := by
  cases f <;> simp [lifeRanOut, spent]

theorem lineQualified_iff (l : CrashLine) : lineQualified l = true ↔ ∃ t, l = .active t ∧ 2000 ≤ t := by
  cases l with
  | active t => simp only [lineQualified, decide_eq_true_eq, CrashLine.active.injEq, exists_eq_left']; rfl
  | inactive | qualified => simp [lineQualified]

/-! ## The groups -/

section
variable (c : Instr) (s : State)

theorem mem_dueBase :
    running s = true ∧ c ∈ dueBase s ↔
      (c = .brownOut ∧ running s = true ∧ stands 10000 s.supply.brownOutTimer) ∨
      (c = .isolationTimeout ∧ running s = true ∧ s.power.asleep = false ∧ s.link.state = .joined ∧
        stands 1000000 s.link.isolation) ∨
      (c = .lineStuck ∧ running s = true ∧ s.power.asleep = false ∧ s.link.state ≠ .stuck ∧
        s.link.insideTelegram = false ∧ s.link.level = .dominant ∧ 1000 ≤ s.link.dominantFor) ∨
      (c = .stuckRelease ∧ running s = true ∧ s.power.asleep = false ∧ s.link.state = .stuck ∧
        s.link.insideTelegram = false ∧ s.link.level = .recessive ∧
        10000 ≤ s.link.tailFor + s.link.recessiveFor) := by
  simp only [dueBase, List.mem_append, mem_dueIf, reached_iff, reading_iff, lineStuck_iff, lineFree_iff,
    Bool.and_eq_true, beq_iff_eq, and_assoc, or_assoc]
  change running s = true ∧ (_ ∧ stands 10000 _ ∨ _ ∧ _ ∧ _ ∧ _ ∧ stands 1000000 _ ∨ _) ↔ _
  tauto

theorem mem_dueRoster :
    c ∈ dueRoster s ↔
      (∃ n, c = .peerLost n ∧ (s.roster.peers[n]).presence = .present ∧ 350000 ≤ (s.roster.peers[n]).age) ∨
      (c = .statePeriodExpiry ∧ stands 100000 s.roster.period) ∨
      (c = .vehicleHoldExpiry ∧ spent s.vehicle.hold) ∨ (c = .afterRunExpiry ∧ spent s.vehicle.afterRun) ∨
      ∃ n,
        (c = .filterLifeExpiry n .lockreq ∧ spent ((s.roster.peers[n]).lockreqFilter.map (·.life))) ∨
        (c = .filterLifeExpiry n .windowreq ∧ spent ((s.roster.peers[n]).windowreqFilter.map (·.life))) := by
  simp only [dueRoster, List.mem_append, List.mem_flatMap, List.mem_finRange, true_and, mem_dueIf, reached_iff,
    ranOut_iff, lifeRanOut_iff, Bool.and_eq_true, beq_iff_eq, decide_eq_true_eq, or_assoc]
  rfl

theorem mem_dueLatch (l : Latch) :
    c ∈ dueLatch l ↔
      (c = .overtravelEnd ∧ l.phase = .overtravel ∧ 20000 ≤ l.phaseTimer) ∨
      (c = .overtravelCurrentStop ∧ l.phase = .overtravel ∧ l.resume = .drive ∧ 1000 ≤ l.overTime) ∨
      (c = .latchBrakeEnd ∧ l.phase = .brake ∧ 50000 ≤ l.phaseTimer) ∨
      (c = .latchPulseLimit ∧ l.phase = .drive ∧ 300000 ≤ l.pulseElapsed) ∨
      (c = .latchPauseEnd ∧ l.phase = .pause ∧ 500000 ≤ l.phaseTimer) ∨
      (c = .latchSupplyWaitExpiry ∧ stands 2000000 l.supplyWait) ∨
      (c = .latchOvercurrent ∧ l.phase = .drive ∧ 1000 ≤ l.overTime) ∨
      (c = .regulateChopOff ∧ (l.phase = .regulate ∨ (l.phase = .overtravel ∧ l.resume = .regulate)) ∧
        l.chopBegun = true ∧ l.chopOn = true ∧ 24 ≤ l.chopAbove) ∨
      (c = .regulationLimit ∧ l.phase = .regulate ∧ tRegLimit l.regLimit ≤ l.regElapsed) ∨
      (c = .latchOpenLoad ∧ (l.phase = .drive ∨ l.phase = .regulate) ∧ stands 50000 l.openLoad) := by
  simp only [dueLatch, List.mem_append, mem_dueIf, reached_iff, latchChopped_iff, Bool.and_eq_true,
    Bool.or_eq_true, beq_iff_eq, decide_eq_true_eq, and_assoc, or_assoc]
  rfl

theorem mem_dueBody :
    c ∈ dueBody s ↔
      (c = .deadlockWindowExpiry ∧ spent s.lock.deadlockWindow) ∨ (c = .relockExpiry ∧ spent s.lock.relock) ∨
      (c = .secondTurnExpiry ∧ spent s.lock.secondTurn) ∨
      (c = .releasePulseEnd ∧ stands 400000 s.release.pulse) ∨
      (c = .childPulseEnd ∧ stands 250000 (s.child.pulse.map (·.elapsed))) ∨
      (c = .crashLineQualified ∧ (s.crash.due = true ∨ ∃ t, s.crash.line = .active t ∧ 2000 ≤ t)) := by
  simp only [dueBody, List.mem_append, mem_dueIf, reached_iff, ranOut_iff, lineQualified_iff, Bool.or_eq_true,
    or_assoc]
  rfl

theorem mem_duePack : c ∈ duePack s ↔ ∃ k, c = .packRefreshExpiry k ∧ stands 100000 s.pack.refresh[k] := by
  simp only [duePack, mem_flatMap_dueIf, reached_iff]
  rfl

theorem mem_dueSearch :
    c ∈ dueSearch s ↔
      (c = .wakeWaitEnd ∧ ∃ t, (s.search.wakeWait = .first t ∨ s.search.wakeWait = .second t) ∧ 5000 ≤ t) ∨
      (∃ k, c = .slotStart k ∧ s.search.phase = .inFlight ∧ min k.val 4 = s.straps.position.val ∧
        s.search.nextSlot ≤ k.val ∧ 1000 + 3000 * k.val ≤ s.now - s.search.t0.getD s.now) ∨
      (c = .collectingStart ∧ s.search.phase = .inFlight ∧ 18000 ≤ s.now - s.search.t0.getD s.now) ∨
      (c = .collectionEnd ∧ s.search.phase = .collecting ∧ 120000 ≤ s.now - s.search.t0.getD s.now) := by
  simp only [dueSearch, List.mem_append, mem_dueIf, mem_flatMap_dueIf, ownsSlot, slotStation, ownNumber,
    Bool.and_eq_true, beq_iff_eq, decide_eq_true_eq, and_assoc, or_assoc]
  refine or_congr (and_congr_right fun _ => ?_) Iff.rfl
  cases s.search.wakeWait with
  | first t | second t => simp; rfl
  | stopped | awaitState => simp

theorem mem_duePower :
    c ∈ duePower s ↔
      (c = .quietTimerExpiry ∧ s.power.entry = .announcing ∧ s.power.flagSent = true ∧
        2000000 ≤ s.power.quiet) ∨
      (c = .settleExpiry ∧ s.power.entry = .settling ∧ stands 200000 s.power.settle ∧ s.link.tx = [] ∧
        s.link.rx = []) ∨
      (c = .chopPeriodStart ∧
        (s.latch.phase = .regulate ∨ (s.latch.phase = .overtravel ∧ s.latch.resume = .regulate)) ∧
        500 ≤ s.latch.chopTimer) := by
  simp only [duePower, List.mem_append, mem_dueIf, reached_iff, latchChopped_iff, Bool.and_eq_true, beq_iff_eq,
    decide_eq_true_eq, List.isEmpty_iff, and_assoc, or_assoc]
  rfl

theorem mem_dueAlways :
    c ∈ dueAlways s ↔
      (c = .rfGapTimeout ∧ s.rf.phase ≠ .idle ∧ 3000 ≤ s.rf.gap) ∨
      (c = .measurementEnd 5000 ∧ s.touch.measuring ≠ none ∧ 5000 ≤ s.touch.measureElapsed) ∨
      (c = .scanPeriodStart ∧ s.touch.scanLength ≤ s.touch.scanElapsed) ∨
      ∃ e, c = .touchStuckExpiry e ∧ s.touch.paused = false ∧ measured s e = true ∧
        (s.touch.electrodes[e]).touched = true ∧ stands 30000000 (s.touch.electrodes[e]).touchTime := by
  simp only [dueAlways, List.mem_append, mem_dueIf, mem_flatMap_dueIf, reached_iff, Bool.and_eq_true,
    Bool.not_eq_true', bne_iff_ne, decide_eq_true_eq, Option.isSome_iff_ne_none, and_assoc, or_assoc]
  rfl

end

/-! ## The timers of window drive -/

theorem leftOf_eq_zero (runs : Bool) (limit n : Nat) : leftOf runs limit n = some 0 ↔ limit ≤ n := by
  unfold leftOf
  split
  · simp; omega
  · next h => simp at h ⊢; omega

theorem map_sub_eq_zero (limit : Nat) (t : Option Nat) : t.map (limit - ·) = some 0 ↔ stands limit t := by
  cases t with
  | none => simp [stands]
  | some t => simp [stands]; omega

/-- A timer of window drive has run out; its condition in the words of its rule. -/
def expired (w : Window) : WindowTimer → Prop
  | .heat => 100000 ≤ w.onTime
  | .stall => w.bridge = .drive ∧ stands 150000 (w.run.map (·.stall))
  | .coast => stands 50000 w.coast
  | .lease => ∃ m, w.move = some m ∧ m.kind ≠ .global ∧ spent m.lease
  | .globalLease => ∃ m, w.move = some m ∧ m.kind = .global ∧ spent m.lease
  | .spentHold => spent (w.spentHold.map (·.remaining))
  | .globalSpent => spent (w.globalSpent.map (·.remaining))
  | .brake => w.bridge = .brake ∧ 20000 ≤ w.brakeTimer
  | .ramp => w.bridge = .drive ∧ ∃ r, w.run = some r ∧ 10000 ≤ r.rampTimer ∧ r.ramp < 400
  | .excursion => w.bridge = .drive ∧ stands 100000 w.excursion
  | .overcurrent => w.bridge = .drive ∧ 2000 ≤ w.overTime
  | .openLoad => w.bridge = .drive ∧ ∃ r, w.run = some r ∧ stands 50000 r.openLoad
  | .cool => w.bridge ≠ .drive ∧ 2000000 ≤ w.offTime
  | .counterReset => stands 10000000 w.reversalReset

theorem timerLeft_eq_zero (w : Window) (x : WindowTimer) : timerLeft w x = some 0 ↔ expired w x := by
  cases x with
  | heat => exact leftOf_eq_zero ..
  | stall =>
    simp only [timerLeft, expired, Option.ite_none_right_eq_some]
    rw [← map_sub_eq_zero, Option.map_map]
    rfl
  | coast => exact map_sub_eq_zero ..
  | lease | globalLease =>
    cases h : w.move <;> simp [timerLeft, expired, globalRunning, h, spent]
  | spentHold | globalSpent => exact Iff.rfl
  | brake =>
    simp only [timerLeft, expired, Option.ite_none_right_eq_some, Option.some.injEq, Nat.sub_eq_zero_iff_le]
    rfl
  | ramp =>
    simp only [timerLeft, expired, Option.ite_none_right_eq_some, Option.bind_eq_some_iff, Option.some.injEq,
      Nat.sub_eq_zero_iff_le, and_comm (a := _ < 400)]
    rfl
  | excursion =>
    simp only [timerLeft, expired, Option.ite_none_right_eq_some, map_sub_eq_zero]
    rfl
  | overcurrent =>
    simp only [timerLeft, expired, Option.ite_none_right_eq_some, leftOf_eq_zero]
    rfl
  | openLoad =>
    simp only [timerLeft, expired, Option.ite_none_right_eq_some, Option.bind_eq_some_iff, leftOf_eq_zero]
    rfl
  | cool =>
    simp only [timerLeft, expired, Option.ite_none_left_eq_some, Option.some.injEq, Nat.sub_eq_zero_iff_le]
    rfl
  | counterReset => exact map_sub_eq_zero ..

theorem exists_windowTimer (p : WindowTimer → Prop) :
    (∃ x, p x) ↔
      p .heat ∨ p .stall ∨ p .coast ∨ p .lease ∨ p .globalLease ∨ p .spentHold ∨ p .globalSpent ∨ p .brake ∨
        p .ramp ∨ p .excursion ∨ p .overcurrent ∨ p .openLoad ∨ p .cool ∨ p .counterReset := by
  refine ⟨fun ⟨x, hx⟩ => ?_, fun h => ?_⟩
  · cases x <;> simp [hx]
  · rcases h with h | h | h | h | h | h | h | h | h | h | h | h | h | h <;> exact ⟨_, h⟩

/-- A timer of window drive is due at a station with a window, and in SLEEP the two that run there (R113, R115). -/
theorem mem_dueWindow (c : Instr) (s : State) :
    c ∈ dueWindow s ↔
      ∃ x : WindowTimer, c = timerRow x ∧ hasWindow s = true ∧ (s.power.asleep = false ∨ x.runsAsleep = true) ∧
        expired s.window x := by
  simp only [dueWindow, List.mem_map, List.mem_filter, mem_windowTimers, true_and, beq_iff_eq, untilTimer,
    Option.ite_none_right_eq_some, timerLeft_eq_zero, Bool.and_eq_true, Bool.or_eq_true, Bool.not_eq_true',
    and_assoc]
  exact exists_congr fun x => by rw [eq_comm (a := c)]; tauto

/-! ## All that is due -/

theorem operating_of_hasWindow {s : State} (h : hasWindow s = true) : operating s = true :=
  ((Bool.and_eq_true ..).mp h).1

theorem running_of_operating {s : State} (h : operating s = true) : running s = true :=
  ((Bool.and_eq_true ..).mp h).1

theorem active_iff_operating (s : State) : active s = true ↔ operating s = true ∧ s.power.asleep = false := by
  simp [active]

theorem mem_dueEvents (c : Instr) (s : State) :
    c ∈ dueEvents s ↔
      (running s = true ∧ c ∈ dueBase s) ∨
      (operating s = true ∧ (c ∈ dueAlways s ∨ c ∈ dueWindow s)) ∨
      (active s = true ∧
        (c ∈ dueRoster s ∨ c ∈ dueLatch s.latch ∨ c ∈ dueBody s ∨ (hasWindow s = true ∧ c ∈ duePack s) ∨
          c ∈ dueSearch s ∨ c ∈ duePower s)) := by
  unfold dueEvents
  by_cases hr : running s = true
  · by_cases ho : operating s = true
    · cases ha : s.power.asleep <;> by_cases hw : hasWindow s = true <;>
        simp [hr, ho, ha, hw, active_iff_operating, or_assoc]
    · simp [hr, ho, active_iff_operating]
  · have ho : ¬ operating s = true := mt running_of_operating hr
    simp [hr, ho, active_iff_operating]

/-- The rows of the timers of window drive, with their guards. -/
theorem mem_dueWindow_operating (c : Instr) (s : State) :
    operating s = true ∧ c ∈ dueWindow s ↔
      ∃ x : WindowTimer, c = timerRow x ∧
        ((active s = true ∧ hasWindow s = true ∧ x.runsAsleep = false) ∨
          (hasWindow s = true ∧ x.runsAsleep = true)) ∧ expired s.window x := by
  rw [mem_dueWindow]
  refine ⟨fun ⟨ho, x, hc, hw, ha, hx⟩ => ⟨x, hc, ?_, hx⟩, fun ⟨x, hc, hg, hx⟩ => ?_⟩
  · cases hs : x.runsAsleep with
    | false => exact .inl ⟨(active_iff_operating s).2 ⟨ho, ha.resolve_right (by simp [hs])⟩, hw, rfl⟩
    | true => exact .inr ⟨hw, rfl⟩
  · rcases hg with ⟨ha, hw, -⟩ | ⟨hw, hs⟩
    · exact ⟨operating_of_hasWindow hw, x, hc, hw, .inl ((active_iff_operating s).1 ha).2, hx⟩
    · exact ⟨operating_of_hasWindow hw, x, hc, hw, .inr hs, hx⟩

end Sys2Proof.Machine

end

section
/-! SUPPORT. The step on an empty queue. -/

open Sys2Proof Sys2Proof.Machine Sys2Proof.Safety Sys2Proof.Claims

namespace Sys2Proof.Machine

/-- Each group names its own commands, so that a command is due by the one row that names it. -/
theorem mem_dueEvents_iff (c : Instr) (s : State) : c ∈ dueEvents s ↔ due s c := by
  rw [mem_dueEvents, and_or_left, mem_dueBase, mem_dueWindow_operating, mem_dueAlways, mem_dueRoster, mem_dueLatch,
    mem_dueBody, mem_duePack, mem_dueSearch, mem_duePower]
  simp only [exists_windowTimer, timerRow, expired, WindowTimer.runsAsleep]
  cases c with
  | filterLifeExpiry n k => cases k <;> simp [due]
  | regulationLimit =>
    simp [due]
    exact fun _ _ => Iff.rfl
  | touchStuckExpiry e =>
    have hmeasured : measured s e = true → operating s = true := fun h => ((Bool.and_eq_true ..).mp h).1
    simp [due]
    tauto
  | measurementEnd n =>
    simp [due]
    tauto
  | peerLost | packRefreshExpiry | slotStart =>
    simp [due]
  | _ =>
    simp only [reduceCtorEq, false_and, and_false, or_false, false_or, exists_const, true_and, and_true, and_assoc,
      due]

/-! ## The step on an empty queue (R18, R184) -/

theorem step_of_idle {s : State} (h : s.pending = []) : step s = .next (idleStep s) := by
  rw [step, h]

/-- A station that reads takes its oldest telegram (R18). -/
theorem dispatchDue_of_takes {s : State} {m : Message} {t : Nat} (h : takes s m t) :
    dispatchDue s = some (takingOf m) := by
  obtain ⟨hrun, hawake, e, rest, hrx, rfl, hm⟩ := h
  simp [dispatchDue, reading, headMessage, hrun, hawake, hrx, hm, ownNumber]

/-- A station held in reset, one in SLEEP, and one without a telegram take none. -/
theorem dispatchDue_of_none {s : State} (h : s.link.rx = [] ∨ running s = false ∨ s.power.asleep = true) :
    dispatchDue s = none := by
  unfold dispatchDue
  rcases h with h | h | h
  · simp [headMessage, h]
  · simp [reading, h]
  · simp [reading, h]

theorem writeDue_iff (s : State) :
    writeDue s = true ↔ operating s = true ∧ s.settings.write = none ∧ s.settings.writes ≠ [] := by
  simp [writeDue, and_assoc]

theorem idleStep_of_taking {s : State} {i : Instr} (hp : s.pending = []) (h : dispatchDue s = some i) :
    idleStep s = { s with pending := [i] } := by
  rw [idleStep, h]
  dsimp only
  rw [hp]
  rfl

theorem idleStep_of_write {s : State} (hp : s.pending = []) (hd : dispatchDue s = none) (hw : writeDue s = true) :
    idleStep s = { s with pending := [.nvmWriteStart] } := by
  rw [idleStep, hd]
  dsimp only
  rw [if_pos hw, hp]
  rfl

/-- With nothing to take and nothing to write, 1 µs passes. -/
theorem idleStep_of_tick {s : State} (hp : s.pending = []) (hd : dispatchDue s = none) (hw : ¬ writeDue s = true) :
    idleStep s = { afterTime 1 s with pending := dueEvents (afterTime 1 s) } := by
  have hpending : (elapse Config.tick s).pending = [] := (elapse_frame s Config.tick).1.trans hp
  rw [idleStep, hd]
  dsimp only
  rw [if_neg hw, tickStep, hpending, elapse_eq]
  rfl

end Sys2Proof.Machine

/-- Settles O2: the three branches of the idle step, the counts with the time, and the events that are due
(`idleStep` is the model's own). -/
theorem idleStepHolds : Obligations.IdleStep := by
  refine ⟨fun s hp => ⟨fun m t ht => ?_, fun hnone => ⟨fun ho hw hws => ?_, fun hno => ?_⟩⟩, elapse_eq, mem_dueEvents_iff⟩
  · rw [step_of_idle hp, idleStep_of_taking hp (dispatchDue_of_takes ht)]
  · rw [step_of_idle hp, idleStep_of_write hp (dispatchDue_of_none hnone) ((writeDue_iff s).2 ⟨ho, hw, hws⟩)]
  · have hwrite : ¬ writeDue s = true := by
      rw [writeDue_iff]
      rintro ⟨ho, hw, hws⟩
      rcases hno with h | h | h
      · simp [ho] at h
      · exact h hw
      · exact hws h
    rw [step_of_idle hp, idleStep_of_tick hp (dispatchDue_of_none hnone) hwrite]

end

section
/-! SUPPORT. The reporting law (R34): two reports in a row leave nothing unreported, and every command ends with
them. -/

open Sys2Proof Sys2Proof.Machine Sys2Proof.Safety Sys2Proof.Claims

namespace Sys2Proof.Machine

/-! ## The own STATE after a placement -/

/-- Of the own STATE, the ending of an event can change the sleeping flag and the fault summary alone (R33). -/
theorem ownState_endedAs (s t : State) :
    ownState (endedAs s t) =
      { ownState s with sleeping := t.power.sleepingFlag, summary := t.faults.summary } := rfl

theorem ownState_placeState (s : State) :
    ownState (placeState s) = { ownState s with summary := (placeState s).faults.summary } := by
  rw [placeState_endedAs, ownState_endedAs, placeState_power]
  rfl

theorem lastPlaced_placeState (s : State) : (placeState s).roster.lastPlaced = some (ownState s) := by
  simp [placeState]

/-! ## The fault summary after a placement (R15, R181) -/

/-- The TX_OVERFLOW flag of a fault summary. -/
def overflowFlag : BitVec 16 := 0x10

/-- The FAULT of a capture, refused in its turn, raises the TX_OVERFLOW flag and no other. -/
theorem placeFault_summary (s : State) :
    (placeFault s).faults.summary = s.faults.summary ∨
      (placeFault s).faults.summary = s.faults.summary ||| overflowFlag := by
  unfold placeFault
  split
  · exact .inl rfl
  · rename_i r hr
    split
    · refine .inr ?_
      simp only [captureRecord, hr]
      rfl
    · exact .inl rfl

/-- The flag of the kind captured stands in the summary, whatever becomes of the FAULT. -/
theorem captureRecord_summary (t : Nat) (k : FaultKind) (a b c : Byte) (f : Faults) :
    (captureRecord t k a b c f).1.summary = f.summary ||| faultFlag k := by
  unfold captureRecord
  split <;> rfl

theorem captureAwake_txOverflow_summary (a b c : Byte) (s : State) :
    (captureAwake .txOverflow a b c s).faults.summary = s.faults.summary ||| overflowFlag := by
  have hrecord := captureRecord_summary (timeCount s) .txOverflow a b c s.faults
  simp only [captureAwake]
  split
  · rcases placeFault_summary { s with faults := (captureRecord (timeCount s) .txOverflow a b c s.faults).1 }
      with h | h
    · rw [h, hrecord]; rfl
    · rw [h, hrecord, show faultFlag .txOverflow = overflowFlag from rfl, BitVec.or_assoc, BitVec.or_self]
  · exact hrecord

/-- A STATE that is refused raises the TX_OVERFLOW flag; any other leaves the summary (R15). -/
theorem placeState_summary (s : State) :
    (placeState s).faults.summary = s.faults.summary ∨
      (placeState s).faults.summary = s.faults.summary ||| overflowFlag := by
  unfold placeState
  dsimp only
  generalize ownTelegram s kState (encodeState (ownState s)) = t
  generalize hu : { s with roster := _ } = u
  have hfaults : u.faults = s.faults := hu ▸ rfl
  rw [← hfaults]
  by_cases hr : (enqueue t u.link).2 = .refused
  · rw [place_of_refused t u (enqueue t u.link).1 (Prod.ext rfl hr)]
    exact .inr (captureAwake_txOverflow_summary _ _ _ u)
  · rw [place_of_not_refused t u hr]
    exact .inl rfl

/-! ## Two reports (R34) -/

/-- A placed STATE carries every reported field unless its own refusal has changed the summary. -/
theorem fieldsChanged_placeState_of_summary (s : State) (h : (placeState s).faults.summary = s.faults.summary) :
    fieldsChanged (placeState s) = false := by
  rw [fieldsChanged, lastPlaced_placeState, ownState_placeState, h]
  simp [ownState]

/-- A report leaves nothing unreported, or the TX_OVERFLOW flag set. -/
theorem reportOnce_reportLaw_or (s : State) :
    ReportLaw (reportOnce s) ∨
      (reportOnce s).faults.summary ||| overflowFlag = (reportOnce s).faults.summary := by
  unfold reportOnce
  split
  · rcases placeState_summary s with h | h
    · exact .inl fun _ => fieldsChanged_placeState_of_summary s h
    · refine .inr ?_
      rw [h, BitVec.or_assoc, BitVec.or_self]
  · rename_i hno
    refine .inl fun ha => ?_
    simpa [ha] using hno

/-- With the TX_OVERFLOW flag set, a refusal changes no field, so that one report leaves nothing unreported. -/
theorem reportOnce_reportLaw_of_flag (s : State) (h : s.faults.summary ||| overflowFlag = s.faults.summary) :
    ReportLaw (reportOnce s) := by
  unfold reportOnce
  split
  · refine fun _ => fieldsChanged_placeState_of_summary s ?_
    rcases placeState_summary s with hs | hs
    · exact hs
    · exact hs.trans h
  · rename_i hno
    intro ha
    simpa [ha] using hno

/-- A report with nothing to report changes nothing. -/
theorem reportOnce_of_reportLaw {s : State} (h : ReportLaw s) : reportOnce s = s := by
  refine if_neg fun hc => ?_
  obtain ⟨ha, hf⟩ := Bool.and_eq_true_iff.mp hc
  exact absurd (h ha) (by simp [hf])

theorem reportChanges_reportLaw (s : State) : ReportLaw (reportChanges s) := by
  unfold reportChanges
  rcases reportOnce_reportLaw_or s with h | h
  · rwa [reportOnce_of_reportLaw h]
  · exact reportOnce_reportLaw_of_flag _ h

/-- The ending of every event establishes the reporting law, whatever the event has done (R34). -/
theorem conclude_reportLaw (s : State) : ReportLaw (conclude s) := by
  unfold conclude
  split
  · exact reportChanges_reportLaw _
  · rename_i hheld
    intro ha
    exact absurd (idle_of_held s (by simpa using hheld)).2.1 (by simp [ha])

/-! ## What a command can do -/

/-- A command leaves the state as it is, or ends as every event does. -/
def IsEvent (s : State) (o : Host.Outcome State Fault Refusal) : Prop :=
  o = .next s ∨ ∃ u, o = .next (conclude u)

theorem event_isEvent (c : Bool) (f : State → State) (s : State) : IsEvent s (event c f s) := by
  cases c
  · exact .inl rfl
  · exact .inr ⟨f s, rfl⟩

theorem taking_isEvent (row : Instr) (f : Message → Nat → State → State) (s : State) :
    IsEvent s (taking row f s) := by
  unfold taking
  split
  · exact event_isEvent _ _ s
  · exact .inl rfl

/-- Every command but the comparator's is an event. -/
theorem exec_isEvent (c : Instr) (s : State) (hc : ∀ b, c ≠ .supplyComparatorChange b) : IsEvent s (exec c s) := by
  cases c <;> dsimp only [exec]
  case powerOn i => exact .inr ⟨start i s, rfl⟩
  case supplyComparatorChange b => exact absurd rfl (hc b)
  case dispatchDiscard | stateTaken | vehicleTaken | faultTaken | serviceackTaken | lockreqLock
      | lockreqDeadlock | lockreqUnlock | lockreqChildOn | lockreqChildOff | windowreqManualUp
      | windowreqManualDown | windowreqAutoUp | windowreqAutoDown | windowreqStop | pinchTaken
      | searchTaken | crashTaken | serviceEnrol | serviceOption | serviceClearfault
      | serviceForgetWindow | fobLock | fobUnlock | fobTailgate | fobCloseAll | fobOpenAll
      | fobSearchReply => exact taking_isEvent _ _ s
  all_goals exact event_isEvent _ _ s

/-! ## What does not end as an event -/

/-- The reporting law speaks of whether the station acts, its last placed STATE and its present one. -/
theorem reportLaw_of_same {s t : State} (h : ReportLaw s) (ha : active t = active s)
    (hl : t.roster.lastPlaced = s.roster.lastPlaced) (ho : ownState t = ownState s) : ReportLaw t := by
  unfold ReportLaw fieldsChanged at *
  rwa [ha, hl, ho]

theorem moveClass_windowAfter (n : Nat) (w : Window) : moveClass (windowAfter n w) = moveClass w := by
  unfold moveClass windowAfter
  cases w.move <;> rfl

theorem baseAfter_reportLaw (n : Nat) {s : State} (h : ReportLaw s) : ReportLaw (baseAfter n s) :=
  reportLaw_of_same h rfl rfl rfl

theorem awakeAfter_reportLaw (n : Nat) {s : State} (h : ReportLaw s) : ReportLaw (awakeAfter n s) :=
  reportLaw_of_same h rfl rfl rfl

/-- The times of a window that stands or moves are no field of STATE (R100). -/
theorem alwaysAfter_reportLaw (n : Nat) {s : State} (h : ReportLaw s) : ReportLaw (alwaysAfter n s) := by
  refine reportLaw_of_same h rfl rfl ?_
  have hclass : moveClass (alwaysAfter n s).window = moveClass s.window := by
    unfold alwaysAfter
    dsimp only
    split
    · rfl
    · split
      · rfl
      · exact moveClass_windowAfter n s.window
  have hrest : (alwaysAfter n s).window.knowledge = s.window.knowledge ∧
      windowPercent (alwaysAfter n s).window = windowPercent s.window := by
    unfold alwaysAfter
    dsimp only
    split_ifs <;> exact ⟨rfl, rfl⟩
  unfold ownState
  rw [hclass, hrest.1, hrest.2]
  rfl

/-- Time changes no field of STATE, and not what the station has placed last (R33). -/
theorem elapse_reportLaw (n : Nat) {s : State} (h : ReportLaw s) : ReportLaw (elapse n s) := by
  rw [elapse_eq, afterTime]
  split_ifs
  · exact h
  · exact baseAfter_reportLaw n h
  · exact alwaysAfter_reportLaw n (baseAfter_reportLaw n h)
  · exact awakeAfter_reportLaw n (alwaysAfter_reportLaw n (baseAfter_reportLaw n h))

/-- A step on an empty queue reports nothing, for it changes no field of STATE. -/
theorem idleStep_reportLaw (s : State) (h : ReportLaw s) : ReportLaw (idleStep s) := by
  unfold idleStep
  split
  · exact h
  · split
    · exact h
    · exact elapse_reportLaw Config.tick h

end Sys2Proof.Machine

/-- Settles O6: the ending of an event reports twice, and the second report covers the refusal of the first. -/
theorem reportLawKept : Obligations.ReportLawKept := by
  intro s t h hs
  unfold step at hs
  split at hs
  · rename_i c rest _
    have hfront : ReportLaw { s with pending := rest } := h
    by_cases hc : ∃ b, c = .supplyComparatorChange b
    · obtain ⟨b, rfl⟩ := hc
      cases hs
      exact hfront
    · rcases exec_isEvent c { s with pending := rest } (not_exists.mp hc) with hx | ⟨u, hx⟩
      · rw [hx] at hs
        cases hs
        exact hfront
      · rw [hx] at hs
        cases hs
        exact conclude_reportLaw u
  · cases hs
    exact idleStep_reportLaw s h

end

section
/-! SUPPORT. The roster's records and the vehicle status: STATE and VEHICLE taken, and the roster's timers (R29 to
R32, R37 to R42, R73 to R75, R92, R94, R107). -/

open Sys2Proof Sys2Proof.Machine Sys2Proof.Safety Sys2Proof.Claims

namespace Sys2Proof.Machine

/-- An event that takes place, by what it does before its ending. -/
theorem exec_of_event {i : Instr} {c : Bool} {f : State → State} {s u : State} (he : exec i s = event c f s)
    (hc : c = true) (hu : f s = u) : exec i s = .next (conclude u) := by
  rw [he, event_of_true s f hc, hu]

/-! ## Peer records -/

theorem setCrashNumber_zero (n : Fin 8) (s : State) : setCrashNumber n 0 s = forgetCrash n s := rfl

/-- A record written again with the same presence is as if written once: what the roster showed is remembered by
presences alone (R9). -/
theorem onPeer_changed (n : Fin 8) (f : Peer → Peer) (p : Peer) (s : State) (h : (f p).presence = p.presence) :
    onPeer n f (changed n p s) = changed n (f p) s := by
  simp only [changed, h]
  split <;> simp [onPeer, setPeer, peer]

/-- A record's filters are emptied, and its crash number forgotten, after a change of its presence (R30, R31, R42,
R92). -/
theorem clearFilters_changed (n : Fin 8) (p : Peer) (s : State) :
    clearFilters n (changed n p s) =
      forgetCrash n (changed n { p with lockreqFilter := none, windowreqFilter := none } s) := by
  rw [clearFilters, onPeer_changed _ _ _ _ rfl, setCrashNumber_zero]

/-! ## A STATE taken (R29, R30, R32, R40, R73) -/

/-- The record of a node after its STATE `c` (R29, R30). -/
def stateRecord (c : StateContents) (old : Peer) : Peer :=
  { presence := if c.sleeping = true then .asleep else .present, age := 0, lastState := some c
    lockreqFilter := if raisesJoining old.lastState c = true then none else old.lockreqFilter
    windowreqFilter := if raisesJoining old.lastState c = true then none else old.windowreqFilter }

/-- What the roster and crash response keep of a STATE (R29, R30, R92). -/
def stateHeard (n : Fin 8) (c : StateContents) (s : State) : State :=
  let s1 := changed n (stateRecord c s.roster.peers[n]) s
  if raisesJoining (s.roster.peers[n]).lastState c = true then forgetCrash n s1 else s1

/-- What a STATE whose door open flag is newly set ends: the after-run, from a front door, and the relock timer,
from a door of the expected set (R40, R73). -/
def doorNewlyOpen (n : Fin 8) (opened : Bool) (s : State) : State :=
  { s with
    vehicle := if opened = true ∧ (n = 0 ∨ n = 1) then { s.vehicle with afterRun := none } else s.vehicle
    lock :=
      if opened = true ∧ expectedStation s.straps.body n.val = true then { s.lock with relock := none }
      else s.lock }

theorem doorNewlyOpen_false (n : Fin 8) (s : State) : doorNewlyOpen n false s = s := by
  simp [doorNewlyOpen]

theorem doorNewlyOpen_eq (n : Fin 8) (opened : Bool) (s : State) :
    doorNewlyOpen n opened s =
      let s1 := if opened && (n == 0 || n == 1) then endAfterRun s else s
      if opened && expected s1 n.val then stopRelock s1 else s1 := by
  simp only [doorNewlyOpen, expected, Bool.and_eq_true, Bool.or_eq_true, beq_iff_eq]
  split_ifs <;> simp_all [endAfterRun, stopRelock]

theorem stateHeard_eq (n : Fin 8) (c : StateContents) (s : State) :
    stateHeard n c s =
      let s1 := onPresence n
        (fun p => { p with presence := if c.sleeping then .asleep else .present, age := 0, lastState := some c }) s
      if raisesJoining (peer s n).lastState c then clearFilters n s1 else s1 := by
  simp only [onPresence_eq_changed, clearFilters_changed, stateHeard, stateRecord, peer]
  split <;> simp_all

@[simp] theorem doorNewlyOpen_roster (n : Fin 8) (opened : Bool) (s : State) :
    (doorNewlyOpen n opened s).roster = s.roster := rfl

theorem changed_doorNewlyOpen (n m : Fin 8) (p : Peer) (opened : Bool) (s : State) :
    changed n p (doorNewlyOpen m opened s) = doorNewlyOpen m opened (changed n p s) := by
  simp only [changed, doorNewlyOpen]
  split <;> rfl

theorem forgetCrash_doorNewlyOpen (n m : Fin 8) (opened : Bool) (s : State) :
    forgetCrash n (doorNewlyOpen m opened s) = doorNewlyOpen m opened (forgetCrash n s) := by
  simp only [forgetCrash]
  split <;> rfl

/-- What a STATE ends at the door, and what the roster keeps of it, do not touch each other. -/
theorem stateHeard_doorNewlyOpen (n : Fin 8) (c : StateContents) (opened : Bool) (s : State) :
    stateHeard n c (doorNewlyOpen n opened s) = doorNewlyOpen n opened (stateHeard n c s) := by
  simp only [stateHeard, changed_doorNewlyOpen, doorNewlyOpen_roster]
  split
  · exact forgetCrash_doorNewlyOpen _ _ _ _
  · rfl

theorem takeState_eq (n : Fin 8) (c : StateContents) (s : State) :
    takeState n c s =
      if (s.roster.peers[n]).presence = (if c.sleeping then .asleep else .present) ∧
          (s.roster.peers[n]).lastState = some c then stateHeard n c s
      else driveAwayTest (doorNewlyOpen n (raisesDoor (s.roster.peers[n]).lastState c) (stateHeard n c s)) := by
  rw [takeState, doorNewlyOpen_eq, stateHeard_eq]
  dsimp only [peerChange, peer]
  split_ifs <;> simp_all [raisesDoor]

/-! ## A VEHICLE taken (R37, R39, R40, R73 to R75, R94, R107) -/

theorem ignitionRuns_iff (i : Ignition) : ignitionRuns i = true ↔ i = .on ∨ i = .crank := by
  simp [ignitionRuns]

/-- The station after the values of a VEHICLE, before its vehicle change: at the ignition OFF→ON event crash hold
ends and the drive-away lock is armed (R37, R39, R40, R74, R94). -/
def vehicleHeard (v : Byte) (i : Ignition) (s : State) : State :=
  let s1 : State := { s with vehicle := vehicleTelegram v i s.vehicle }
  if ignitionRuns i && s.vehicle.offSeen then armDriveAway (endCrashHold s1) else s1

theorem vehicleTelegram_eq (v : Byte) (i : Ignition) (x : Vehicle) :
    vehicleTelegram v i x =
      { speed := if v = 255 then none else some v.toNat, ignition := i, hold := some 2000000
        offSeen := if i = .off then true else if i = .on ∨ i = .crank then false else x.offSeen
        afterRun :=
          if i = .on ∨ i = .crank then none
          else if x.ignition = .on ∨ x.ignition = .crank then some 45000000 else x.afterRun } := by
  simp only [vehicleTelegram, ignitionRuns_iff, speedOf, tVehicleHold, tAfterRun]

theorem vehicleHeard_eq (v : Byte) (i : Ignition) (s : State) :
    vehicleHeard v i s =
      { s with
        vehicle := vehicleTelegram v i s.vehicle
        crash :=
          { s.crash with
            hold := if (i = .on ∨ i = .crank) ∧ s.vehicle.offSeen = true then false else s.crash.hold }
        lock :=
          { s.lock with
            driveAwayArmed :=
              if (i = .on ∨ i = .crank) ∧ s.vehicle.offSeen = true then s.settings.options.driveAway
              else s.lock.driveAwayArmed } } := by
  simp only [vehicleHeard, Bool.and_eq_true, ignitionRuns_iff]
  split_ifs <;> rfl

theorem takeVehicle_eq_vehicleChange (v : Byte) (i : Ignition) (s : State) :
    takeVehicle v i s = vehicleChange s.vehicle (vehicleHeard v i s) := rfl

/-- Lock logic stops the relock timer under ON or CRANK, and makes the drive-away test (R73, R75). -/
theorem vehicleChangeLock_eq (s : State) :
    vehicleChangeLock s =
      driveAwayTest
        { s with lock :=
          { s.lock with
            relock :=
              if s.vehicle.ignition = .on ∨ s.vehicle.ignition = .crank then none else s.lock.relock } } := by
  simp only [vehicleChangeLock]
  split_ifs <;> rfl

theorem vehicleChange_of_same {old : Vehicle} {s : State} (hs : s.vehicle.speed = old.speed)
    (hi : s.vehicle.ignition = old.ignition) : vehicleChange old s = s := by
  simp [vehicleChange, hs, hi]

theorem vehicleChange_of_changed {old : Vehicle} {s : State}
    (h : ¬ (s.vehicle.speed = old.speed ∧ s.vehicle.ignition = old.ignition)) :
    vehicleChange old s =
      if s.vehicle.ignition = .crank ∧ old.ignition ≠ .crank then crankWindow (vehicleChangeLock s)
      else vehicleChangeLock s := if_neg h

/-- A move of the own switch or of the pack ends at a change to CRANK (R107). -/
theorem crankWindow_of_move {s : State} {m : Move} (hm : s.window.move = some m)
    (hk : m.kind = .manual ∨ m.kind = .auto) (hs : m.source = .ownSwitch ∨ m.source = .pack) :
    crankWindow s = endMove .stop false true .none s := by
  simp [crankWindow, endIf, hm, hk, hs]

theorem crankWindow_of_other {s : State}
    (h : ∀ m, s.window.move = some m →
      ¬ ((m.kind = .manual ∨ m.kind = .auto) ∧ (m.source = .ownSwitch ∨ m.source = .pack))) :
    crankWindow s = s := by
  unfold crankWindow endIf
  split
  · rename_i m hm
    exact if_neg (by simpa using h m hm)
  · rfl

/-! ## The roster's timers (R31, R34, R38, R40, R41) -/

section

variable {s : State} (ha : active s = true)
include ha

theorem peerLost_of_present {n : Fin 8} (hp : (s.roster.peers[n]).presence = .present) :
    exec (.peerLost n) s =
      .next (conclude (driveAwayTest (forgetCrash n
        (changed n
          { s.roster.peers[n] with presence := .lost, lockreqFilter := none, windowreqFilter := none } s)))) := by
  refine exec_of_event (by rfl) (by simpa [ha, peer] using hp) ?_
  rw [onPresence_eq_changed, clearFilters_changed, peerChange_not_opened]
  rfl

theorem statePeriodExpiry_of_period (h : s.roster.period ≠ none) :
    exec .statePeriodExpiry s = .next (conclude (placeState s)) :=
  event_of_true s _ (by simp [ha, Option.isSome_iff_ne_none, h])

/-- The vehicle data that were held become those of a vehicle that stands (R38). -/
theorem vehicleHoldExpiry_of_hold (h : s.vehicle.hold ≠ none) :
    exec .vehicleHoldExpiry s =
      .next (conclude
        (if s.vehicle.speed = none ∧ s.vehicle.ignition = .off then
          { s with vehicle := { s.vehicle with hold := none } }
         else
           driveAwayTest
             { s with vehicle := { s.vehicle with speed := none, ignition := .off, hold := none } })) := by
  refine exec_of_event (by rfl) (by simp [ha, Option.isSome_iff_ne_none, h]) ?_
  split
  · rename_i hsame
    rw [vehicleChange_of_same hsame.1.symm hsame.2.symm, ← hsame.1, ← hsame.2]
  · rename_i hdiff
    rw [vehicleChange_of_changed fun hsame => hdiff ⟨hsame.1.symm, hsame.2.symm⟩, if_neg (by simp),
      vehicleChangeLock_eq]
    rfl

theorem afterRunExpiry_of_running (h : s.vehicle.afterRun ≠ none) :
    exec .afterRunExpiry s = .next (conclude { s with vehicle := { s.vehicle with afterRun := none } }) :=
  event_of_true s _ (by simp [ha, Option.isSome_iff_ne_none, h])

theorem filterLifeExpiry_of_held {n : Fin 8} {k : FilterKind} (h : filterEntry k s.roster.peers[n] ≠ none) :
    exec (.filterLifeExpiry n k) s = .next (conclude (setPeer n (emptyFilter k s.roster.peers[n]) s)) :=
  event_of_true s _ (by simpa [ha, Option.isSome_iff_ne_none, peer] using h)

end

/-! ## The own STATE (R33, R100) -/

theorem isRear_iff (s : State) : isRear s = true ↔ s.straps.position = 2 ∨ s.straps.position = 3 := by
  simp [isRear, ownNumber]

theorem isTailgate_iff (s : State) : isTailgate s = true ↔ s.straps.position = 4 := by
  simp [isTailgate, ownNumber]

/-- The window fields of a station without a window (R100). -/
theorem ownState_of_tailgate {s : State} (h : s.straps.position = 4) :
    (ownState s).windowClass = .absent ∧ (ownState s).knowledge = .unpositioned ∧ (ownState s).percent = 255 := by
  simp [ownState, (isTailgate_iff s).mpr h]

/-- The window fields of a station that has one (R100). -/
theorem ownState_of_window {s : State} (h : s.straps.position ≠ 4) :
    (ownState s).windowClass = moveClass s.window ∧ (ownState s).knowledge = s.window.knowledge ∧
      (ownState s).percent = windowPercent s.window := by
  have hno : isTailgate s = false := by rwa [← Bool.not_eq_true, isTailgate_iff]
  simp [ownState, hno]

theorem moveClass_eq (w : Window) :
    moveClass w =
      match w.move with
      | some m =>
        if m.kind = .reversal then .reversing
        else (match m.dir with | .up => .movingUp | .down => .movingDown)
      | none =>
        (match w.stopReason with
          | .none => .stopped | .halted => .halted | .supply => .supplyPause
          | .globalRefused => .globalRefused) := by
  unfold moveClass
  cases w.move with
  | some m => rfl
  | none => cases w.stopReason <;> rfl

theorem windowPercent_of_positioned {w : Window} {t : Nat} (hk : w.knowledge = .positioned) (ht : w.pTop = some t) :
    windowPercent w = BitVec.ofNat 8 ((w.p * 100 + t / 2) / t) := by
  simp [windowPercent, hk, ht]

theorem windowPercent_of_not_positioned {w : Window} (hk : w.knowledge ≠ .positioned) : windowPercent w = 255 := by
  unfold windowPercent
  split
  · contradiction
  · rfl

end Sys2Proof.Machine

/-- Settles O26: a STATE that changes nothing at lock logic opens no door, and any other ends in its peer change. -/
theorem stateTaken : Obligations.StateTaken := by
  intro s n c
  refine ⟨fun t h => taking_of_takes (row := .stateTaken) onState h rfl, ?_⟩
  intro old joins opens presence s1 s2
  have hs2 : s2 = stateHeard n c (doorNewlyOpen n opens s) := rfl
  refine ⟨fun hp hl => ?_, fun hne => ?_⟩
  · have hopens : opens = false := by simp [opens, hl]
    rw [takeState_eq, if_pos ⟨hp, hl⟩, hs2, hopens, doorNewlyOpen_false]
  · rw [takeState_eq, if_neg (by rintro ⟨hp, hl⟩; exact hne.elim (· hp) (· hl)), hs2, stateHeard_doorNewlyOpen]
    rfl

/-- Settles O27: the values of a VEHICLE, and its vehicle change where one of them differs. -/
theorem vehicleTaken : Obligations.VehicleTaken := by
  intro s v i
  refine ⟨fun t h => taking_of_takes (row := .vehicleTaken) onVehicle h rfl, ?_⟩
  intro speed runs ran starts s1 same u
  have hs1 : s1 = vehicleHeard v i s := by rw [vehicleHeard_eq, vehicleTelegram_eq]
  have htake : takeVehicle v i s = vehicleChange s.vehicle s1 := by rw [hs1, takeVehicle_eq_vehicleChange]
  have hlock : vehicleChangeLock s1 = u := vehicleChangeLock_eq s1
  have hother : ¬ same →
      takeVehicle v i s = if i = .crank ∧ s.vehicle.ignition ≠ .crank then crankWindow u else u := by
    intro hne
    rw [htake, vehicleChange_of_changed fun h => hne ⟨h.1.symm, h.2.symm⟩, hlock]
  refine ⟨fun h => ?_, fun hne hc => ?_, fun hne hi hold => ⟨fun m hm hk hsrc => ?_, fun hm => ?_⟩⟩
  · rw [htake]
    exact vehicleChange_of_same h.1.symm h.2.symm
  · rw [hother hne, if_neg (by rintro ⟨hi, hold⟩; exact hc.elim (· hi) hold)]
  · rw [hother hne, if_pos ⟨hi, hold⟩, crankWindow_of_move hm hk hsrc]
  · rw [hother hne, if_pos ⟨hi, hold⟩, crankWindow_of_other hm]

/-- Settles O37: the timers that run at an acting station, and the fields of its STATE in turn. -/
theorem rosterTimerRows : Obligations.RosterTimerRows := by
  refine ⟨fun s ha => ⟨fun n => peerLost_of_present ha, statePeriodExpiry_of_period ha,
    vehicleHoldExpiry_of_hold ha, afterRunExpiry_of_running ha,
    fun n => ⟨filterLifeExpiry_of_held (k := .lockreq) ha, filterLifeExpiry_of_held (k := .windowreq) ha⟩⟩, ?_⟩
  intro s rear tail w c
  refine ⟨rfl, rfl, rfl, rfl, ?_, ?_, rfl, rfl, rfl, rfl, rfl, ?_, ownState_of_tailgate, fun hw => ?_⟩
  · simp [c, ownState, isRear_iff, rear]
  · simp [c, ownState]
  · simp only [c, ownState]
    cases s.lock.source <;> rfl
  · obtain ⟨hclass, hknow, hpercent⟩ := ownState_of_window hw
    refine ⟨hknow, fun t hk ht => hpercent.trans (windowPercent_of_positioned hk ht),
      fun hk => hpercent.trans (windowPercent_of_not_positioned hk), hclass.trans ?_⟩
    exact moveClass_eq s.window

end

section
/-! SUPPORT. The fob check unit (R167, R169 to R171), the own door and the inside handle (R40, R58, R72, R73, R75,
R76, R87), and the crash line with the crash entry (R89 to R91). -/

open Sys2Proof Sys2Proof.Machine Sys2Proof.Safety Sys2Proof.Claims

namespace Sys2Proof.Machine

/-! ## Fob reports (R169 to R171) -/

theorem verified_iff (r : FobReport) (e : Fob) : verified r e = true ↔ e.enrolled = true ∧ r.tag = fobCode e.key r := by
  simp [verified]

/-- The six rows of FOBREPORT have one meaning (R167). -/
theorem exec_fobReportRow (n : Fin 8) (r : FobReport) (s : State) :
    exec (takingOf (.fobReport n r)) s = taking (takingOf (.fobReport n r)) onFobreport s := by
  cases r with
  | mk search fob command => cases command <;> rfl

/-- A FOBREPORT is taken under the row of its command, after its evidence (R29, R167). -/
theorem fobReportRow_of_takes {s : State} {n : Fin 8} {r : FobReport} {t : Nat} (h : takes s (.fobReport n r) t) :
    exec (takingOf (.fobReport n r)) s = .next (conclude (takeReport false r (evidence n (popped s)))) :=
  (exec_fobReportRow n r s).trans (taking_of_takes onFobreport h rfl)

/-- One more bit into the CRC-32 of R169. -/
theorem crc32_append_bit (key : BitVec 32) (bits : List Bool) (b : Bool) :
    crc32 key (bits ++ [b]) =
      if (crc32 key bits).msb = b then crc32 key bits <<< 1 else (crc32 key bits <<< 1) ^^^ 0x04C11DB7 := by
  rw [crc32, List.foldl_append]
  exact if_congr beq_iff_eq rfl rfl

/-! ## Inputs at an acting station -/

/-- At an acting station with no debounce running, an input change changes nothing by itself (R180). -/
theorem inputChange_of_active {s : State} (i : SwitchInput) (ha : active s = true)
    (hw : s.pins.wakeDebounce = none) : inputChange i s = s := by
  rw [inputChange_of_awake s i ((active_iff s).mp ha).2.2, debounced_of_none s i hw]

theorem operating_of_active {s : State} (ha : active s = true) : operating s = true :=
  ((active_iff_operating s).mp ha).1

/-- A write of UNLOCKED is always taken (R45). -/
theorem writeTarget_unlocked (s : State) :
    writeTarget .unlocked s = { s with latch := latchWrite (decide (70 ≤ s.supply.value)) .unlocked s.latch } := by
  rw [writeTarget, latchWriteGated_unlocked]
  rfl

/-- A write of LOCKED is taken outside crash hold (R45). -/
theorem writeTarget_locked_of_no_hold {s : State} (h : s.crash.hold = false) :
    writeTarget .locked s = { s with latch := latchWrite (decide (70 ≤ s.supply.value)) .locked s.latch } := by
  simp [writeTarget, latchWriteGated, latchSupplyOk, h]

/-! ## The own door (R40, R58, R72, R73, R75) -/

theorem doorAjarChange_of_active {s : State} (b : Bool) (ha : active s = true) (hw : s.pins.wakeDebounce = none) :
    exec (.doorAjarChange b) s = .next (conclude (doorChange b s)) :=
  exec_of_event (by rfl) (operating_of_active ha) (by rw [inputChange_of_active _ ha hw])

theorem doorChange_of_same (s : State) : doorChange s.pins.doorOpen s = s := if_pos rfl

/-- With the own door open there is no drive-away lock (R75). -/
theorem driveAwayTest_of_doorOpen {s : State} (h : s.pins.doorOpen = true) : driveAwayTest s = s := by
  simp [driveAwayTest, h]

/-- The door opens: a deadlocked latch is unlocked, the relock timer stops, and a front door ends the after-run (R40,
R58, R73). -/
theorem doorChange_of_opening {s : State} (h : s.pins.doorOpen = false) :
    doorChange true s =
      let s1 := stopRelock (doorOpenLatch { s with pins := { s.pins with doorOpen := true } })
      if ownNumber s = 0 ∨ ownNumber s = 1 then endAfterRun s1 else s1 := by
  have hdoor : ∀ u : State, (doorOpenLatch u).pins = u.pins := by
    intro u
    unfold doorOpenLatch
    split <;> simp
  have hopen : (stopRelock (doorOpenLatch { s with pins := { s.pins with doorOpen := true } })).pins.doorOpen = true := by
    rw [stopRelock_pins, hdoor]
  rw [doorChange, if_neg (by simp [h])]
  refine driveAwayTest_of_doorOpen ?_
  simp only [↓reduceIte]
  split <;> exact hopen

/-- The door closes: the follow-up lock and the drive-away test (R72, R75). -/
theorem doorChange_of_closing {s : State} (h : s.pins.doorOpen = true) :
    doorChange false s = driveAwayTest (followUpLock { s with pins := { s.pins with doorOpen := false } }) := by
  simp [doorChange, h]

theorem doorOpenLatch_eq (s : State) :
    doorOpenLatch s =
      if s.latch.target = .deadlocked ∨ s.latch.observed = .deadlocked then
        { s with latch := latchWrite (decide (70 ≤ s.supply.value)) .unlocked s.latch }
      else s := by
  rw [doorOpenLatch, writeTarget_unlocked]

theorem followUpLock_of_clear {s : State} (h : s.lock.followUp = false) : followUpLock s = s := by
  simp [followUpLock, h]

/-- The follow-up lock is a write of LOCKED where the last action still is LOCK and nothing is deadlocked (R72). -/
theorem followUpLock_of_lock {s : State} (h : s.lock.followUp = true) (hh : s.crash.hold = false)
    (ha : s.lock.action = some .lock) (ht : s.latch.target ≠ .deadlocked) (ho : s.latch.observed ≠ .deadlocked) :
    followUpLock s =
      { s with
        lock := { s.lock with followUp := false }
        latch := latchWrite (decide (70 ≤ s.supply.value)) .locked s.latch } := by
  have hcond : (!s.crash.hold && s.lock.action == some .lock && s.latch.target != .deadlocked &&
      s.latch.observed != .deadlocked) = true := by simp [hh, ha, ht, ho]
  simp only [followUpLock, h, if_true, hcond]
  exact writeTarget_locked_of_no_hold (s := { s with lock := _ }) hh

theorem followUpLock_of_other {s : State} (h : s.lock.followUp = true)
    (hno : s.crash.hold = true ∨ s.lock.action ≠ some .lock ∨ s.latch.target = .deadlocked ∨
      s.latch.observed = .deadlocked) :
    followUpLock s = { s with lock := { s.lock with followUp := false } } := by
  have hcond : ¬ (!s.crash.hold && s.lock.action == some .lock && s.latch.target != .deadlocked &&
      s.latch.observed != .deadlocked) = true := by
    simp only [Bool.and_eq_true, Bool.not_eq_true', beq_iff_eq, bne_iff_ne]
    rintro ⟨⟨⟨hh, ha⟩, ht⟩, ho⟩
    rcases hno with h1 | h1 | h1 | h1
    · simp [hh] at h1
    · exact h1 ha
    · exact ht h1
    · exact ho h1
  simp only [followUpLock, h, if_true]
  exact if_neg hcond

/-! ## The inside handle (R76, R87) -/

/-- A pull reaches lock logic where the handle was not pulled, and child safety at a rear station does not stop it. -/
theorem insideHandlePull_of_active {s : State} (b : Bool) (ha : active s = true) (hw : s.pins.wakeDebounce = none) :
    exec (.insideHandlePull b) s = .next (conclude
      (if b = true ∧ s.pins.handlePulled = false ∧
          ¬ ((s.straps.position = 2 ∨ s.straps.position = 3) ∧ s.child.position = true) then
        handlePull { s with pins := { s.pins with handlePulled := b } }
      else { s with pins := { s.pins with handlePulled := b } })) := by
  refine exec_of_event (by rfl) (operating_of_active ha) ?_
  simp only [inputChange_of_active _ ha hw, Bool.and_eq_true, Bool.not_eq_true', isRear_iff,
    ← Bool.not_eq_true, and_assoc]

theorem handlePull_eq (s : State) :
    handlePull s =
      if s.latch.target = .locked then
        { s with latch := latchWrite (decide (70 ≤ s.supply.value)) .unlocked s.latch }
      else s := by
  rw [handlePull, writeTarget_unlocked]

end Sys2Proof.Machine

/-- Settles O32: the rows by command, the two tests of a report, and the CRC-32 bit by bit. -/
theorem fobRows : Obligations.FobRows := by
  refine ⟨fun s n r t h => ?_, fun own r s => ?_, fun _ _ => rfl, fun key bits b => ⟨rfl, crc32_append_bit key bits b⟩⟩
  · cases r with
    | mk search fob command => cases command <;> exact fobReportRow_of_takes h
  · intro e x counted
    refine ⟨fun h => ?_, fun he ht => ?_⟩
    · have hno : ¬ verified r e = true := by
        rw [verified_iff]
        rintro ⟨he, ht⟩
        exact h.elim (by simp [he]) (· ht)
      exact if_neg hno
    · have hyes : takeReport own r s =
          if x = .accepted then dispatchReport own r (markRecord (.fobEntry r.fob) counted) else counted :=
        if_pos ((verified_iff r e).mpr ⟨he, ht⟩)
      exact ⟨fun hx => hyes.trans (if_neg hx), fun hx => hyes.trans (if_pos hx)⟩

/-- Settles O47: an input change at an acting station, and what it does at lock logic and at the latch. -/
theorem doorAndHandleRows : Obligations.DoorAndHandleRows := by
  intro s ha hw
  refine ⟨?_, ?_, ?_, ?_⟩
  · rw [doorAjarChange_of_active _ ha hw, doorChange_of_same]
  · intro hclosed opened s1 s2
    rw [doorAjarChange_of_active _ ha hw, doorChange_of_opening hclosed, doorOpenLatch_eq]
    rfl
  · intro hopen closed s1
    rw [doorAjarChange_of_active _ ha hw, doorChange_of_closing hopen]
    refine ⟨fun hf => ?_, fun hf hh hl ht ho => ?_, fun hf hno => ?_⟩
    · rw [followUpLock_of_clear (s := closed) hf]
    · rw [followUpLock_of_lock (s := closed) hf hh hl ht ho]
    · rw [followUpLock_of_other (s := closed) hf hno]
  · intro pull stopped
    refine ⟨fun hp hst ht => ?_, fun hno => ?_, ?_⟩
    · rw [insideHandlePull_of_active _ ha hw, if_pos ⟨rfl, hp, hst⟩, handlePull_eq, if_pos ht]
    · rw [insideHandlePull_of_active _ ha hw, handlePull_eq]
      split
      · rename_i hpull
        obtain ⟨-, hp, hst⟩ := hpull
        refine congrArg _ (congrArg _ (if_neg fun ht => ?_))
        exact hno.elim (by simp [hp]) fun h => h.elim hst (· ht)
      · rfl
    · rw [insideHandlePull_of_active _ ha hw, if_neg (by simp)]
end

section
/-! SUPPORT. What no command but a power-on changes: the commands that wait, and the straps (R24). One lemma per
operation, in the order of the model. -/

open Sys2Proof Sys2Proof.Machine Sys2Proof.Safety Sys2Proof.Claims

namespace Sys2Proof.Machine

variable (s : State)

/-! ## Lock logic and latch -/

@[simp] theorem debounced_kept (i : SwitchInput) :
    (debounced i s).pending = s.pending ∧ (debounced i s).straps = s.straps := ⟨rfl, rfl⟩

@[simp] theorem takeLock_kept (src : ActionSource) (c : LockCause) (n : Byte) (own : Bool) :
    (takeLock src c n own s).pending = s.pending ∧ (takeLock src c n own s).straps = s.straps := by
  simp only [takeLock]; split_ifs <;> exact ⟨rfl, rfl⟩

@[simp] theorem takeDeadlock_kept (src : ActionSource) (c : LockCause) (n : Byte) (own : Bool) :
    (takeDeadlock src c n own s).pending = s.pending ∧ (takeDeadlock src c n own s).straps = s.straps := by
  simp only [takeDeadlock]; split_ifs <;> simp

@[simp] theorem takeUnlock_kept (src : ActionSource) (c : LockCause) (own : Bool) :
    (takeUnlock src c own s).pending = s.pending ∧ (takeUnlock src c own s).straps = s.straps := ⟨rfl, rfl⟩

@[simp] theorem takeRequest_kept (a : CentralAction) (src : ActionSource) (c : LockCause) (n : Byte) (own : Bool) :
    (takeRequest a src c n own s).pending = s.pending ∧ (takeRequest a src c n own s).straps = s.straps := by
  unfold takeRequest; cases a <;> [simp; (dsimp only; split <;> simp); simp]

@[simp] theorem requestOutcome_kept (q : Byte) (confirmed : Bool) :
    (requestOutcome q confirmed s).pending = s.pending ∧ (requestOutcome q confirmed s).straps = s.straps := by
  unfold requestOutcome
  split
  · exact ⟨rfl, rfl⟩
  · split <;> [(dsimp only; split <;> simp); exact ⟨rfl, rfl⟩]

@[simp] theorem driveAwayTest_kept :
    (driveAwayTest s).pending = s.pending ∧ (driveAwayTest s).straps = s.straps := by
  simp only [driveAwayTest]; split_ifs <;> simp

@[simp] theorem peerChange_kept (n : Fin 8) (opened : Bool) :
    (peerChange n opened s).pending = s.pending ∧ (peerChange n opened s).straps = s.straps := by
  simp only [peerChange]; split <;> simp

@[simp] theorem vehicleChangeLock_kept :
    (vehicleChangeLock s).pending = s.pending ∧ (vehicleChangeLock s).straps = s.straps := by
  simp only [vehicleChangeLock]; split <;> simp

@[simp] theorem followUpLock_kept :
    (followUpLock s).pending = s.pending ∧ (followUpLock s).straps = s.straps := by
  simp only [followUpLock]; split_ifs <;> exact ⟨rfl, rfl⟩

@[simp] theorem doorOpenLatch_kept :
    (doorOpenLatch s).pending = s.pending ∧ (doorOpenLatch s).straps = s.straps := by
  simp only [doorOpenLatch]; split <;> exact ⟨rfl, rfl⟩

@[simp] theorem doorChange_kept (b : Bool) :
    (doorChange b s).pending = s.pending ∧ (doorChange b s).straps = s.straps := by
  simp only [doorChange]; split_ifs <;> simp

@[simp] theorem releaseRequest_kept :
    (releaseRequest s).pending = s.pending ∧ (releaseRequest s).straps = s.straps := by
  simp only [releaseRequest]; repeat' split
  all_goals exact ⟨rfl, rfl⟩

@[simp] theorem handlePull_kept :
    (handlePull s).pending = s.pending ∧ (handlePull s).straps = s.straps := by
  simp only [handlePull]; split <;> exact ⟨rfl, rfl⟩

/-! ## Window drive -/

@[simp] theorem handAccumulators_kept (atTop : Bool) :
    (handAccumulators atTop s).pending = s.pending ∧ (handAccumulators atTop s).straps = s.straps := by
  simp only [handAccumulators]; split_ifs <;> exact ⟨rfl, rfl⟩

@[simp] theorem endMove_kept (m : Manner) (a b : Bool) (r : StopReason) :
    (endMove m a b r s).pending = s.pending ∧ (endMove m a b r s).straps = s.straps := by
  unfold endMove; split <;> simp

@[simp] theorem thermalEnd_kept :
    (thermalEnd s).pending = s.pending ∧ (thermalEnd s).straps = s.straps := by
  simp only [thermalEnd]; split <;> simp

@[simp] theorem startRun_kept (m : Move) :
    (startRun m s).pending = s.pending ∧ (startRun m s).straps = s.straps := by
  simp only [startRun]; split <;> simp

@[simp] theorem takeMove_kept (m : Move) :
    (takeMove m s).pending = s.pending ∧ (takeMove m s).straps = s.straps := by
  simp only [takeMove]; split <;> [simp; exact ⟨rfl, rfl⟩; (split <;> exact ⟨rfl, rfl⟩)]

@[simp] theorem takeCommand_kept (c : Command) :
    (takeCommand c s).pending = s.pending ∧ (takeCommand c s).straps = s.straps := by
  simp only [takeCommand]; split_ifs <;> simp

@[simp] theorem endIf_kept (m : Manner) (f : Move → Bool) (b : Bool) :
    (endIf m f b s).pending = s.pending ∧ (endIf m f b s).straps = s.straps := by
  unfold endIf; split <;> [(split <;> simp); exact ⟨rfl, rfl⟩]

@[simp] theorem ownSwitchChange_kept (c : SwitchCommand) :
    (ownSwitchChange c s).pending = s.pending ∧ (ownSwitchChange c s).straps = s.straps := by
  cases c <;> simp [ownSwitchChange, releaseSwitch]

@[simp] theorem packManual_kept (d : Dir) :
    (packManual d s).pending = s.pending ∧ (packManual d s).straps = s.straps := by
  simp only [packManual]; repeat' split
  all_goals simp

@[simp] theorem windowRequest_kept (a : WindowAction) :
    (windowRequest a s).pending = s.pending ∧ (windowRequest a s).straps = s.straps := by
  cases a <;> simp [windowRequest, packAuto, packStop]

@[simp] theorem setKnowledge_kept (k : Knowledge) :
    (setKnowledge k s).pending = s.pending ∧ (setKnowledge k s).straps = s.straps := by
  simp only [setKnowledge]; split <;> exact ⟨rfl, rfl⟩

@[simp] theorem bottomEnd_kept :
    (bottomEnd s).pending = s.pending ∧ (bottomEnd s).straps = s.straps := by
  simp only [bottomEnd]; split <;> simp

@[simp] theorem blocked_kept :
    (blocked s).pending = s.pending ∧ (blocked s).straps = s.straps := by simp [blocked]

@[simp] theorem topEnd_kept (t : Nat) :
    (topEnd t s).pending = s.pending ∧ (topEnd t s).straps = s.straps := by simp [topEnd]

@[simp] theorem reversalStep_kept :
    (reversalStep s).pending = s.pending ∧ (reversalStep s).straps = s.straps := by
  simp only [reversalStep]; repeat' split
  all_goals simp

@[simp] theorem crankWindow_kept :
    (crankWindow s).pending = s.pending ∧ (crankWindow s).straps = s.straps := by simp [crankWindow]
@[simp] theorem childOnWindow_kept :
    (childOnWindow s).pending = s.pending ∧ (childOnWindow s).straps = s.straps := by simp [childOnWindow]

@[simp] theorem startGlobal_kept (d : Dir) :
    (startGlobal d s).pending = s.pending ∧ (startGlobal d s).straps = s.straps := by
  simp only [startGlobal]; split_ifs <;> simp

@[simp] theorem renewGlobal_kept (d : Dir) :
    (renewGlobal d s).pending = s.pending ∧ (renewGlobal d s).straps = s.straps := by
  simp only [renewGlobal]; split <;> simp

@[simp] theorem globalFrame_kept (d : Dir) :
    (globalFrame d s).pending = s.pending ∧ (globalFrame d s).straps = s.straps := by
  simp only [globalFrame]; split_ifs <;> simp

@[simp] theorem endGlobal_kept (d : Dir) :
    (endGlobal d s).pending = s.pending ∧ (endGlobal d s).straps = s.straps := by
  simp only [endGlobal]; split <;> simp

@[simp] theorem heatTick_kept :
    (heatTick s).pending = s.pending ∧ (heatTick s).straps = s.straps := by simp [heatTick]
@[simp] theorem coolTick_kept :
    (coolTick s).pending = s.pending ∧ (coolTick s).straps = s.straps := ⟨rfl, rfl⟩
@[simp] theorem coastOver_kept :
    (coastOver s).pending = s.pending ∧ (coastOver s).straps = s.straps := ⟨rfl, rfl⟩
@[simp] theorem leaseOver_kept :
    (leaseOver s).pending = s.pending ∧ (leaseOver s).straps = s.straps := by simp [leaseOver]
@[simp] theorem spentHoldOver_kept :
    (spentHoldOver s).pending = s.pending ∧ (spentHoldOver s).straps = s.straps := ⟨rfl, rfl⟩
@[simp] theorem globalSpentOver_kept :
    (globalSpentOver s).pending = s.pending ∧ (globalSpentOver s).straps = s.straps := ⟨rfl, rfl⟩
@[simp] theorem rampOver_kept :
    (rampOver s).pending = s.pending ∧ (rampOver s).straps = s.straps := ⟨rfl, rfl⟩
@[simp] theorem excursionOver_kept :
    (excursionOver s).pending = s.pending ∧ (excursionOver s).straps = s.straps := by simp [excursionOver]
@[simp] theorem counterOver_kept :
    (counterOver s).pending = s.pending ∧ (counterOver s).straps = s.straps := ⟨rfl, rfl⟩

@[simp] theorem windowBrakeOver_kept :
    (windowBrakeOver s).pending = s.pending ∧ (windowBrakeOver s).straps = s.straps := by
  simp only [windowBrakeOver]; split <;> simp

/-! ## Child safety, crash response, search and touch -/

@[simp] theorem takeChildRequest_kept (on : Bool) :
    (takeChildRequest on s).pending = s.pending ∧ (takeChildRequest on s).straps = s.straps := by
  simp only [takeChildRequest]; split <;> exact ⟨rfl, rfl⟩

@[simp] theorem crashLock_kept :
    (crashLock s).pending = s.pending ∧ (crashLock s).straps = s.straps := ⟨rfl, rfl⟩

@[simp] theorem setCrashNumber_kept (n : Fin 8) (x : Byte) :
    (setCrashNumber n x s).pending = s.pending ∧ (setCrashNumber n x s).straps = s.straps := by
  simp only [setCrashNumber]; split <;> exact ⟨rfl, rfl⟩

@[simp] theorem resumeTouch_kept :
    (resumeTouch s).pending = s.pending ∧ (resumeTouch s).straps = s.straps := ⟨rfl, rfl⟩
@[simp] theorem enterFlight_kept (t : Telegram) :
    (enterFlight t s).pending = s.pending ∧ (enterFlight t s).straps = s.straps := ⟨rfl, rfl⟩
@[simp] theorem abandonSearch_kept :
    (abandonSearch s).pending = s.pending ∧ (abandonSearch s).straps = s.straps := ⟨rfl, rfl⟩

@[simp] theorem searchOutcome_kept (t : Telegram) (sent : Bool) :
    (searchOutcome t sent s).pending = s.pending ∧ (searchOutcome t sent s).straps = s.straps := by
  simp only [searchOutcome]; split_ifs <;> exact ⟨rfl, rfl⟩

@[simp] theorem stateAttemptEnded_kept :
    (stateAttemptEnded s).pending = s.pending ∧ (stateAttemptEnded s).straps = s.straps := by
  simp only [stateAttemptEnded]; split <;> exact ⟨rfl, rfl⟩

@[simp] theorem takeReadings_kept (f : Fin 4) (n : Byte) (r : List Byte) :
    (takeReadings f n r s).pending = s.pending ∧ (takeReadings f n r s).straps = s.straps := by
  simp only [takeReadings]; repeat' split
  all_goals exact ⟨rfl, rfl⟩

@[simp] theorem startPeriod_kept :
    (startPeriod s).pending = s.pending ∧ (startPeriod s).straps = s.straps := ⟨rfl, rfl⟩

@[simp] theorem chainMeasurement_kept (i : Fin 3) :
    (chainMeasurement i s).pending = s.pending ∧ (chainMeasurement i s).straps = s.straps := ⟨rfl, rfl⟩

/-! ## Fobs, settings, roster and vehicle status -/

@[simp] theorem awaitWrite_kept (k : Subtype) (r : RecordName) :
    (awaitWrite k r s).pending = s.pending ∧ (awaitWrite k r s).straps = s.straps := ⟨rfl, rfl⟩

@[simp] theorem startWrite_kept :
    (startWrite s).pending = s.pending ∧ (startWrite s).straps = s.straps := by
  unfold startWrite; split <;> exact ⟨rfl, rfl⟩

@[simp] theorem fobLock_kept (f : Fin 4) (c : BitVec 24) :
    (fobLock f c s).pending = s.pending ∧ (fobLock f c s).straps = s.straps := by
  simp only [fobLock]; split <;> simp

@[simp] theorem fobUnlock_kept (f : Fin 4) (c : BitVec 24) :
    (fobUnlock f c s).pending = s.pending ∧ (fobUnlock f c s).straps = s.straps := by
  simp only [fobUnlock]; split <;> simp

@[simp] theorem fobLockWindow_kept :
    (fobLockWindow s).pending = s.pending ∧ (fobLockWindow s).straps = s.straps := by simp [fobLockWindow]
@[simp] theorem fobUnlockWindow_kept :
    (fobUnlockWindow s).pending = s.pending ∧ (fobUnlockWindow s).straps = s.straps := by simp [fobUnlockWindow]

@[simp] theorem dispatchReport_kept (ownLine : Bool) (r : FobReport) :
    (dispatchReport ownLine r s).pending = s.pending ∧ (dispatchReport ownLine r s).straps = s.straps := by
  unfold dispatchReport
  cases r.command <;> simp <;> split_ifs <;> simp

@[simp] theorem takeReport_kept (ownLine : Bool) (r : FobReport) :
    (takeReport ownLine r s).pending = s.pending ∧ (takeReport ownLine r s).straps = s.straps := by
  simp only [takeReport]; split_ifs <;> simp

@[simp] theorem clearFilters_kept (n : Fin 8) :
    (clearFilters n s).pending = s.pending ∧ (clearFilters n s).straps = s.straps := by simp [clearFilters]

@[simp] theorem evidence_kept (n : Fin 8) :
    (evidence n s).pending = s.pending ∧ (evidence n s).straps = s.straps := by
  simp only [evidence]; split <;> simp

@[simp] theorem takeState_kept (n : Fin 8) (c : StateContents) :
    (takeState n c s).pending = s.pending ∧ (takeState n c s).straps = s.straps := by
  simp only [takeState]; split_ifs <;> simp

@[simp] theorem vehicleChange_kept (old : Vehicle) :
    (vehicleChange old s).pending = s.pending ∧ (vehicleChange old s).straps = s.straps := by
  simp only [vehicleChange]; split_ifs <;> simp

@[simp] theorem takeVehicle_kept (v : Byte) (i : Ignition) :
    (takeVehicle v i s).pending = s.pending ∧ (takeVehicle v i s).straps = s.straps := by
  simp only [takeVehicle, vehicleChange_kept]; split <;> exact ⟨rfl, rfl⟩

@[simp] theorem takeCentral_kept (n : Fin 8) (a : CentralAction) (c : LockCause) (q x : Byte) :
    (takeCentral n a c q x s).pending = s.pending ∧ (takeCentral n a c q x s).straps = s.straps := by
  simp only [takeCentral, filterLockreq]; split <;> simp

@[simp] theorem takeChild_kept (n : Fin 8) (on : Bool) (q : Byte) :
    (takeChild n on q s).pending = s.pending ∧ (takeChild n on q s).straps = s.straps := by
  simp only [takeChild, filterLockreq]; split <;> simp

@[simp] theorem takeWindowreq_kept (n : Fin 8) (set : Byte) (a : WindowAction) (q : Byte) :
    (takeWindowreq n set a q s).pending = s.pending ∧ (takeWindowreq n set a q s).straps = s.straps := by
  simp only [takeWindowreq, filterWindowreq]; split_ifs <;> simp

/-! ## Power control -/

@[simp] theorem stateOutcome_kept (collided : Bool) :
    (stateOutcome collided s).pending = s.pending ∧ (stateOutcome collided s).straps = s.straps := by
  simp only [stateOutcome]; split_ifs <;> exact ⟨rfl, rfl⟩

@[simp] theorem trySettle_kept :
    (trySettle s).pending = s.pending ∧ (trySettle s).straps = s.straps := by
  simp only [trySettle]; split <;> exact ⟨rfl, rfl⟩

@[simp] theorem deliverOutcome_kept (collided left : Bool) (t : Telegram) :
    (deliverOutcome collided left t s).pending = s.pending ∧ (deliverOutcome collided left t s).straps = s.straps := by
  unfold deliverOutcome
  repeat' split
  all_goals simp

@[simp] theorem dropEntry_kept (e : TxEntry) :
    (dropEntry s e).pending = s.pending ∧ (dropEntry s e).straps = s.straps := by
  unfold dropEntry
  repeat' split
  all_goals simp

@[simp] theorem powerReceived_kept (t : Telegram) :
    (powerReceived t s).pending = s.pending ∧ (powerReceived t s).straps = s.straps := ⟨rfl, rfl⟩

@[simp] theorem keepSample_kept (v : Nat) :
    (keepSample v s).pending = s.pending ∧ (keepSample v s).straps = s.straps := by
  simp only [keepSample]; split <;> exact ⟨rfl, rfl⟩

@[simp] theorem takeSample_kept (v : Nat) :
    (takeSample v s).pending = s.pending ∧ (takeSample v s).straps = s.straps := by
  simp only [takeSample]; split <;> simp

@[simp] theorem bootDoor_kept :
    (bootDoor s).pending = s.pending ∧ (bootDoor s).straps = s.straps := by
  simp only [bootDoor]; split_ifs <;> exact ⟨rfl, rfl⟩

/-- The entry into CONFIG_FAULT fills the fault record (R27). -/
@[simp] theorem enterConfigFault_kept :
    (enterConfigFault s).pending = s.pending ∧ (enterConfigFault s).straps = s.straps := ⟨rfl, rfl⟩

/-! ## The end of an event, wakes and captures -/

@[simp] theorem conclude_kept : (conclude s).pending = s.pending ∧ (conclude s).straps = s.straps := by
  rw [conclude_endedAs]
  exact ⟨rfl, rfl⟩

@[simp] theorem wake_kept : (wake s).pending = s.pending ∧ (wake s).straps = s.straps := by
  unfold wake
  split
  · exact ⟨placeState_pending (wakeBlocks s), placeState_straps (wakeBlocks s)⟩
  · exact ⟨rfl, rfl⟩

@[simp] theorem capture_kept (k : FaultKind) (a b c : Byte) :
    (capture k a b c s).pending = s.pending ∧ (capture k a b c s).straps = s.straps := by
  simp [capture]

@[simp] theorem inputChange_kept (i : SwitchInput) :
    (inputChange i s).pending = s.pending ∧ (inputChange i s).straps = s.straps := by
  simp [inputChange]

@[simp] theorem elapse_kept (n : Nat) : (elapse n s).pending = s.pending ∧ (elapse n s).straps = s.straps :=
  ⟨(elapse_frame s n).1, (elapse_frame s n).2.1⟩

/-! ## Operations that place a telegram or capture a fault -/

@[simp] theorem withTimeout_kept (r : Latch × Bool) :
    (withTimeout r s).pending = s.pending ∧ (withTimeout r s).straps = s.straps := by
  simp only [withTimeout]; split <;> simp

@[simp] theorem placeRequest_kept (a : CentralAction) (c : LockCause) (n : Byte) :
    (placeRequest a c n s).pending = s.pending ∧ (placeRequest a c n s).straps = s.straps := by
  simp only [placeRequest]; split <;> simp

@[simp] theorem keyLock_kept : (keyLock s).pending = s.pending ∧ (keyLock s).straps = s.straps := by
  unfold keyLock; split <;> simp

@[simp] theorem unexpectedEdge_kept :
    (unexpectedEdge s).pending = s.pending ∧ (unexpectedEdge s).straps = s.straps := by
  unfold unexpectedEdge
  split
  · exact ⟨rfl, rfl⟩
  · dsimp only
    split <;> simp

@[simp] theorem declarePinch_kept : (declarePinch s).pending = s.pending ∧ (declarePinch s).straps = s.straps := by
  unfold declarePinch
  split <;> simp

@[simp] theorem learnTop_kept : (learnTop s).pending = s.pending ∧ (learnTop s).straps = s.straps := by
  simp only [learnTop]; repeat' split
  all_goals simp

@[simp] theorem stalled_kept : (stalled s).pending = s.pending ∧ (stalled s).straps = s.straps := by
  simp only [stalled]; repeat' split
  all_goals simp

@[simp] theorem drivenStep_kept (r : Run) :
    (drivenStep r s).pending = s.pending ∧ (drivenStep r s).straps = s.straps := by
  simp only [drivenStep]; repeat' split
  all_goals simp

@[simp] theorem hallEdge_kept : (hallEdge s).pending = s.pending ∧ (hallEdge s).straps = s.straps := by
  simp only [hallEdge]; repeat' split
  all_goals simp

@[simp] theorem placeWindowreq_kept (k : Fin 4) (a : WindowAction) :
    (placeWindowreq k a s).pending = s.pending ∧ (placeWindowreq k a s).straps = s.straps := by
  simp [placeWindowreq]

@[simp] theorem packChange_kept (k : Fin 4) (b a : SwitchPos) :
    (packChange k b a s).pending = s.pending ∧ (packChange k b a s).straps = s.straps := by
  simp only [packChange]; repeat' split
  all_goals simp

@[simp] theorem overcurrentStop_kept :
    (overcurrentStop s).pending = s.pending ∧ (overcurrentStop s).straps = s.straps := by simp [overcurrentStop]

@[simp] theorem openLoadStop_kept :
    (openLoadStop s).pending = s.pending ∧ (openLoadStop s).straps = s.straps := by simp [openLoadStop]

@[simp] theorem expire_kept (x : WindowTimer) :
    (expire x s).pending = s.pending ∧ (expire x s).straps = s.straps := by
  cases x <;> simp [expire]

/-- The expiries within the time that a Hall step brings are events of window drive. -/
@[simp] theorem elapseTimers_kept (k n : Nat) :
    (elapseTimers k n s).pending = s.pending ∧ (elapseTimers k n s).straps = s.straps := by
  induction k generalizing n s with
  | zero => exact elapse_kept s n
  | succ k ih =>
    simp only [elapseTimers]; repeat' split
    all_goals simp [ih]

@[simp] theorem endChildPulse_kept :
    (endChildPulse s).pending = s.pending ∧ (endChildPulse s).straps = s.straps := by
  simp only [endChildPulse]; repeat' split
  all_goals simp

@[simp] theorem childPress_kept : (childPress s).pending = s.pending ∧ (childPress s).straps = s.straps := by
  simp only [childPress]; split <;> simp

@[simp] theorem setCrashHold_kept :
    (setCrashHold s).pending = s.pending ∧ (setCrashHold s).straps = s.straps := by
  simp only [setCrashHold]; split <;> simp

@[simp] theorem crashEntry_kept : (crashEntry s).pending = s.pending ∧ (crashEntry s).straps = s.straps := by
  simp [crashEntry]

@[simp] theorem ownCrash_kept : (ownCrash s).pending = s.pending ∧ (ownCrash s).straps = s.straps := by
  simp [ownCrash]

@[simp] theorem takeCrash_kept (n : Fin 8) (x : Byte) :
    (takeCrash n x s).pending = s.pending ∧ (takeCrash n x s).straps = s.straps := by
  simp only [takeCrash]; split_ifs <;> simp

@[simp] theorem placeSearch_kept : (placeSearch s).pending = s.pending ∧ (placeSearch s).straps = s.straps := by
  simp only [placeSearch]
  split <;> split <;> simp

@[simp] theorem startSearch_kept (z : Zone) (woke : Bool) :
    (startSearch z woke s).pending = s.pending ∧ (startSearch z woke s).straps = s.straps := by
  simp only [startSearch]; split <;> simp

@[simp] theorem touchSearch_kept (z : Zone) (woke : Bool) :
    (touchSearch z woke s).pending = s.pending ∧ (touchSearch z woke s).straps = s.straps := by
  unfold touchSearch
  split
  · exact startSearch_kept s z woke
  all_goals split <;> exact ⟨rfl, rfl⟩

@[simp] theorem decideSearch_kept (z : Zone) :
    (decideSearch z s).pending = s.pending ∧ (decideSearch z s).straps = s.straps := by
  simp only [decideSearch]; repeat' split
  all_goals simp

@[simp] theorem endCollection_kept :
    (endCollection s).pending = s.pending ∧ (endCollection s).straps = s.straps := by
  simp only [endCollection]; split <;> simp

@[simp] theorem joinSearch_kept (keep : Bool) (x : Byte) (y : BitVec 6) (t : Nat) :
    (joinSearch keep x y t s).pending = s.pending ∧ (joinSearch keep x y t s).straps = s.straps := by
  simp only [joinSearch]; repeat' split
  all_goals simp

@[simp] theorem takeSearch_kept (x : Byte) (y : BitVec 6) (t : Nat) :
    (takeSearch x y t s).pending = s.pending ∧ (takeSearch x y t s).straps = s.straps := by
  unfold takeSearch
  split <;> simp

@[simp] theorem waitOver_kept : (waitOver s).pending = s.pending ∧ (waitOver s).straps = s.straps := by
  simp only [waitOver]; repeat' split
  all_goals simp

@[simp] theorem slotOver_kept (b : Bool) : (slotOver b s).pending = s.pending ∧ (slotOver b s).straps = s.straps := by
  simp only [slotOver]; repeat' split
  all_goals simp

@[simp] theorem touchEvent_kept (z : Zone) (woke : Bool) :
    (touchEvent z woke s).pending = s.pending ∧ (touchEvent z woke s).straps = s.straps := by
  simp only [touchEvent]; split_ifs <;> simp

@[simp] theorem afterKept_kept (i : Fin 3) (e : Electrode) :
    (afterKept i e s).pending = s.pending ∧ (afterKept i e s).straps = s.straps := by
  simp only [afterKept]; split_ifs <;> simp

@[simp] theorem measure_kept (i : Fin 3) (c : Nat) :
    (measure i c s).pending = s.pending ∧ (measure i c s).straps = s.straps := by
  simp only [measure]; repeat' split
  all_goals simp

@[simp] theorem measurementOver_kept (c : Nat) :
    (measurementOver c s).pending = s.pending ∧ (measurementOver c s).straps = s.straps := by
  unfold measurementOver
  split <;> simp

@[simp] theorem placeAnswer_kept (k : Subtype) (r : Byte) :
    (placeAnswer k r s).pending = s.pending ∧ (placeAnswer k r s).straps = s.straps := by
  simp [placeAnswer]

@[simp] theorem answerWrite_kept (r : RecordName) (ok : Bool) :
    (answerWrite r ok s).pending = s.pending ∧ (answerWrite r ok s).straps = s.straps := by
  simp only [answerWrite]; repeat' split
  all_goals simp

@[simp] theorem endWrite_kept (ok : Bool) :
    (endWrite ok s).pending = s.pending ∧ (endWrite ok s).straps = s.straps := by
  simp only [endWrite]; repeat' split
  all_goals simp

@[simp] theorem applyService_kept (k : Subtype) (args : List Byte) :
    (applyService k args s).pending = s.pending ∧ (applyService k args s).straps = s.straps := by
  cases k
  case option => simp only [applyService, applyOption]; split <;> simp
  all_goals simp [applyService, applyEnrol, applyClearfault, applyForget]

@[simp] theorem takeService_kept (k : Subtype) (t : Byte) (args : List Byte) :
    (takeService k t args s).pending = s.pending ∧ (takeService k t args s).straps = s.straps := by
  simp only [takeService]; split_ifs <;> simp

@[simp] theorem frameComplete_kept (p : List Byte) :
    (frameComplete p s).pending = s.pending ∧ (frameComplete p s).straps = s.straps := by
  simp only [frameComplete]; split <;> simp

@[simp] theorem assemble_kept (v : Byte) (e : Bool) :
    (assemble v e s).pending = s.pending ∧ (assemble v e s).straps = s.straps := by
  simp only [assemble]; repeat' split
  all_goals simp

@[simp] theorem rfByte_kept (v : Byte) (e : Bool) :
    (rfByte v e s).pending = s.pending ∧ (rfByte v e s).straps = s.straps := by
  unfold rfByte
  split
  · split <;> simp
  · exact assemble_kept s v e
  · exact ⟨rfl, rfl⟩

/-! ## The link's own rows -/

@[simp] theorem endAttempt_kept (slots : Byte) (c : Bool) :
    (endAttempt slots c s).pending = s.pending ∧ (endAttempt slots c s).straps = s.straps := by
  unfold endAttempt
  split
  · exact ⟨rfl, rfl⟩
  · dsimp only
    split_ifs <;> simp

@[simp] theorem enterStuck_kept : (enterStuck s).pending = s.pending ∧ (enterStuck s).straps = s.straps := by
  have hfold : ∀ (es : List TxEntry) (u : State),
      (es.foldl dropEntry u).pending = u.pending ∧ (es.foldl dropEntry u).straps = u.straps := by
    intro es
    induction es with
    | nil => exact fun _ => ⟨rfl, rfl⟩
    | cons e es ih => exact fun u => ⟨(ih _).1.trans (dropEntry_kept u e).1, (ih _).2.trans (dropEntry_kept u e).2⟩
  simp [enterStuck, hfold]

/-! ## Every command -/

/-- The outcome of a command is a state with the commands that wait and the straps of `s`. -/
def KeepsInputs (s : State) (o : Host.Outcome State Fault Refusal) : Prop :=
  ∃ t, o = .next t ∧ t.pending = s.pending ∧ t.straps = s.straps

variable {s}

theorem goOn_keepsInputs {u : State} (hp : u.pending = s.pending) (hs : u.straps = s.straps) :
    KeepsInputs s (goOn u) := ⟨u, rfl, hp, hs⟩

/-- An event keeps them where its effect does. -/
theorem event_keepsInputs (c : Bool) (f : State → State) (hf : (f s).pending = s.pending ∧ (f s).straps = s.straps) :
    KeepsInputs s (event c f s) := by
  cases c
  · exact ⟨s, rfl, rfl, rfl⟩
  · exact ⟨conclude (f s), rfl, (conclude_kept (f s)).1.trans hf.1, (conclude_kept (f s)).2.trans hf.2⟩

/-- The owners of telegrams keep them. -/
theorem owners_kept (m : Message) (n : Nat) (u : State) :
    ∀ f ∈ [onCentral, onChild, onWindowreq, onService, onFobreport, onEvidence, onState, onVehicle,
      onPinchTelegram, onSearchTelegram, onCrash], (f m n u).pending = u.pending ∧ (f m n u).straps = u.straps := by
  cases m <;>
    simp [onCentral, onChild, onWindowreq, onService, onFobreport, onEvidence, onState, onVehicle,
      onPinchTelegram, peerPinch, onSearchTelegram, onCrash]

theorem taking_keepsInputs (row : Instr) (f : Message → Nat → State → State)
    (hf : ∀ m n u, (f m n u).pending = u.pending ∧ (f m n u).straps = u.straps) : KeepsInputs s (taking row f s) := by
  unfold taking
  split
  · exact event_keepsInputs _ _ (by simp [hf])
  · exact ⟨s, rfl, rfl, rfl⟩

/-- Every row under which a telegram is taken keeps them. -/
theorem takenRow_keepsInputs (row : Instr) (f : Message → Nat → State → State)
    (hf : f ∈ [onCentral, onChild, onWindowreq, onService, onFobreport, onEvidence, onState, onVehicle,
      onPinchTelegram, onSearchTelegram, onCrash]) : KeepsInputs s (taking row f s) :=
  taking_keepsInputs row f fun m n u => owners_kept m n u f hf

/-- A start keeps the commands that wait, and samples the straps (R24). -/
theorem start_inputs (i : PowerOnInputs) (s : State) : (start i s).pending = s.pending ∧ (start i s).straps = i.straps := by
  have hboot := bootDoor_kept (bootBlocks i s.pending (tornStore s))
  simp only [start]
  split
  · exact hboot
  · rw [placeState_pending, placeState_straps]
    exact hboot

/-- Every command but POWER_ON keeps the commands that wait and the straps (R24). -/
theorem exec_keepsInputs (c : Instr) (hc : ∀ i, c ≠ .powerOn i) : KeepsInputs s (exec c s) := by
  cases c <;> dsimp only [exec]
  case powerOn i => exact absurd rfl (hc i)
  case supplyComparatorChange b => exact goOn_keepsInputs rfl rfl
  case brownOut => exact event_keepsInputs _ _ ⟨rfl, rfl⟩
  case dispatchDiscard => exact taking_keepsInputs _ _ fun _ _ _ => ⟨rfl, rfl⟩
  case stateTaken | vehicleTaken | faultTaken | serviceackTaken | lockreqLock | lockreqDeadlock
      | lockreqUnlock | lockreqChildOn | lockreqChildOff | windowreqManualUp | windowreqManualDown
      | windowreqAutoUp | windowreqAutoDown | windowreqStop | pinchTaken | searchTaken | crashTaken
      | serviceEnrol | serviceOption | serviceClearfault | serviceForgetWindow | fobLock | fobUnlock
      | fobTailgate | fobCloseAll | fobOpenAll | fobSearchReply =>
    exact takenRow_keepsInputs _ _ (by simp)
  case settleExpiry => exact event_keepsInputs _ _ ⟨rfl, rfl⟩
  case latchOvercurrent | packRefreshExpiry | motorCurrentChange =>
    refine event_keepsInputs _ _ ?_
    repeat' split
    all_goals simp
  case attemptStart | attemptEnd | insideHandlePull | centralLockButton | centralUnlockButton | keyLockTurn
      | keyUnlockTurn | childSwitchChange | childButtonPress | windowSwitchChange =>
    refine event_keepsInputs _ _ ?_
    dsimp only
    repeat' split
    all_goals simp
  all_goals exact event_keepsInputs _ _ (by simp)

/-- A step on an empty queue keeps the straps. -/
theorem idleStep_straps (s : State) : (idleStep s).straps = s.straps := by
  unfold idleStep
  split
  · rfl
  · split
    · rfl
    · exact (elapse_kept s Config.tick).2

end Sys2Proof.Machine

/-- Settles O4: a start samples the straps, every other command keeps them, and so does an idle step. -/
theorem strapsSampledAtPowerOn : Obligations.StrapsSampledAtPowerOn := by
  intro s t hs
  unfold step at hs
  split at hs
  · rename_i c rest hp
    have hkeep : (∀ i, c ≠ .powerOn i) → t.straps = s.straps := by
      intro hc
      obtain ⟨u, hu, -, hstraps⟩ := exec_keepsInputs (s := { s with pending := rest }) c hc
      cases hu.symm.trans hs
      exact hstraps
    refine ⟨fun i rest' h => ?_, fun hno => hkeep fun i hi => hno i rest (by rw [hp, hi])⟩
    obtain ⟨rfl, -⟩ := List.cons.inj (hp.symm.trans h)
    cases hs
    exact (conclude_kept _).2.trans (start_inputs i _).2
  · rename_i hp
    cases hs
    exact ⟨fun i rest h => absurd (hp.symm.trans h) (by simp), fun _ => idleStep_straps s⟩

end

section
/-! SUPPORT. The crash line, the own crash event and the crash entry (R89 to R91), and the laws at reset. -/

open Sys2Proof Sys2Proof.Machine Sys2Proof.Safety Sys2Proof.Claims

namespace Sys2Proof.Machine

variable {s : State}

/-! ## The crash line (R89, R180) -/

theorem crashLineActive_of_awake (ho : operating s = true) (hl : s.crash.line = .inactive)
    (ha : s.power.asleep = false) :
    exec .crashLineActive s = .next (conclude { s with crash := { s.crash with line := .active 0 } }) :=
  exec_of_event (by rfl) (by simp [ho, hl]) (by simp only [wake_of_awake s ha])

/-- In SLEEP the crash line wakes the station (R180). -/
theorem crashLineActive_of_asleep (ho : operating s = true) (hl : s.crash.line = .inactive)
    (ha : s.power.asleep = true) :
    exec .crashLineActive s =
      .next (conclude { placeState (woken s) with crash := { s.crash with line := .active 0 } }) := by
  refine exec_of_event (by rfl) (by simp [ho, hl]) ?_
  simp only [wake_of_asleep ha, placeState_crash]
  rfl

theorem crashLineInactive_of_operating (ho : operating s = true) :
    exec .crashLineInactive s = .next (conclude
      { s with crash :=
        { s.crash with line := .inactive, due := s.crash.due || lineQualified s.crash.line } }) :=
  exec_of_event (by rfl) ho rfl

theorem lineQualified_of_short (h : ∀ e, s.crash.line = .active e → e < 2000) : lineQualified s.crash.line = false := by
  rw [← Bool.not_eq_true, lineQualified_iff]
  rintro ⟨e, he, hle⟩
  exact absurd hle (Nat.not_le.mpr (h e he))

theorem qualifying_iff (l : CrashLine) : qualifying l = true ↔ ∃ e, l = .active e := by
  cases l <;> simp [qualifying]

/-! ## The own crash event (R89, R91) -/

/-- An own crash event: the crash entry with the next number, and the CRASH telegram after it (R91). -/
theorem ownCrash_eq (s : State) :
    let n : Byte := if s.crash.ownNumber = 255 then 1 else s.crash.ownNumber + 1
    ownCrash s =
      (place { kind := 1, sender := BitVec.ofFin s.straps.position, payload := [n] }
        (crashEntry { s with crash := { takeQualified s.crash with ownNumber := n } })).1 := by
  simp only [ownCrash, ownTelegram, ownNumber, crashEntry_kept, nextCrashNumber]
  rfl

theorem takeQualified_of_due {c : Crash} (h : c.due = true) : takeQualified c = { c with due := false } := if_pos h

theorem takeQualified_of_line {c : Crash} (h : c.due = false) : takeQualified c = { c with line := .qualified } := by
  simp [takeQualified, h]

theorem crashLineQualified_of_active (ha : active s = true)
    (h : s.crash.due = true ∨ ∃ e, s.crash.line = .active e) :
    exec .crashLineQualified s = .next (conclude (ownCrash s)) := by
  refine exec_of_event (by rfl) ?_ rfl
  rw [Bool.and_eq_true, Bool.or_eq_true, qualifying_iff]
  exact ⟨ha, h⟩

theorem crashLineQualified_of_none (hd : s.crash.due = false) (hl : ∀ e, s.crash.line ≠ .active e) :
    exec .crashLineQualified s = .next s := by
  refine event_of_false s _ ?_
  rw [← Bool.not_eq_true, Bool.and_eq_true, Bool.or_eq_true, qualifying_iff]
  rintro ⟨-, h | ⟨e, he⟩⟩
  · simp [hd] at h
  · exact hl e he

/-! ## The crash entry (R90) -/

/-- Crash hold is set and its change reported at once (R34, R90). -/
theorem setCrashHold_eq (s : State) :
    setCrashHold s =
      if s.crash.hold = true then { s with crash := { s.crash with hold := true } }
      else reported (reported { s with crash := { s.crash with hold := true } }) := by
  simp only [setCrashHold, reportChanges, reported_eq]

theorem setCrashHold_frame (s : State) :
    (setCrashHold s).lock = s.lock ∧ (setCrashHold s).latch = s.latch ∧ (setCrashHold s).supply = s.supply ∧
      (setCrashHold s).window = s.window := by
  simp only [setCrashHold]
  split <;> simp

/-- The three steps of a crash entry before the brake-stop (R90). -/
theorem crashEntry_eq (s : State) :
    crashEntry s = endMove .brakeStop false false .none
      { setCrashHold s with
        lock := { s.lock with followUp := false }
        latch := crashUnlock (decide (70 ≤ s.supply.value)) s.latch } := by
  obtain ⟨hlock, hlatch, hsupply, -⟩ := setCrashHold_frame s
  simp only [crashEntry, crashLatch, crashLock, latchSupplyOk, hlock, hlatch, hsupply]

/-! ## The state after reset (R26, R33, R34, R44, R95, R168) -/

/-- The first STATE carries the fields of the state after reset. -/
theorem reset_reportLaw : ReportLaw State.reset := fun _ => by decide

/-- The latch is UNLOCKED, and that is its target (R44). -/
theorem reset_latchLaw : LatchLaw State.reset where
  door := nofun
  hold := nofun
  pursuit := nofun
  resting _ _ _ := rfl
  reached := nofun

/-- The window stands, its position not known (R95). -/
theorem reset_windowLaw : WindowLaw State.reset where
  run := nofun
  hold := nofun
  travel := nofun
  heat := by decide

/-- One STATE is queued, and nothing received. -/
theorem reset_linkLaw : LinkLaw State.reset.link := ⟨txLaw_nil.insert _ (by simp) nofun, Nat.zero_le _⟩

/-- No entry has a resync candidate (R168). -/
theorem reset_fobLaw : FobLaw State.reset := by
  intro f k hk
  have hnone : (State.reset.fobs[f]).candidate = none := by simp [State.reset]
  rw [hnone] at hk
  cases hk

end Sys2Proof.Machine

/-- Settles O50: the crash line and its 2 ms, the event that waits or comes of the line, and the crash entry. -/
theorem crashRows : Obligations.CrashRows := by
  intro s
  refine ⟨fun ho hl => ⟨crashLineActive_of_awake ho hl, crashLineActive_of_asleep ho hl⟩, fun ho => ⟨fun hs => ?_,
    fun e he hle => ?_⟩, fun ha => ?_, ?_⟩
  · rw [crashLineInactive_of_operating ho, lineQualified_of_short hs, Bool.or_false]
  · rw [crashLineInactive_of_operating ho, (lineQualified_iff _).mpr ⟨e, he, hle⟩, Bool.or_true]
  · intro n own
    refine ⟨fun hd => ?_, fun e hd he => ?_, fun hd hl => ?_⟩
    · rw [crashLineQualified_of_active ha (.inl hd), ownCrash_eq, takeQualified_of_due hd]
    · rw [crashLineQualified_of_active ha (.inr ⟨e, he⟩), ownCrash_eq, takeQualified_of_line hd]
    · exact crashLineQualified_of_none hd fun e he => by simp [he] at hl
  · intro flagged placed s1
    have hs1 : crashEntry s = endMove .brakeStop false false .none s1 := by rw [crashEntry_eq, setCrashHold_eq]
    have hmove : s1.window.move = s.window.move := by
      obtain ⟨-, -, -, hwindow⟩ := setCrashHold_frame s
      rw [setCrashHold_eq] at hwindow
      exact congrArg Window.move hwindow
    exact ⟨fun hm => hs1.trans (endMove_of_none s1 _ _ _ _ (hmove.trans hm)), fun _ => hs1⟩

/-- Settles O11: the five laws at the state after reset. -/
theorem resetKeepsLaws : Obligations.ResetKeepsLaws :=
  ⟨reset_reportLaw, reset_latchLaw, reset_windowLaw, (queueLaw_iff _).mpr reset_linkLaw, reset_fobLaw⟩

end

section
/-! SUPPORT. The start of a station (R24 to R28, R44, R95, R113, R116, R168) and what it loads (R183). -/

open Sys2Proof Sys2Proof.Machine Sys2Proof.Safety Sys2Proof.Claims

namespace Sys2Proof.Machine

/-! ## The straps (R25) -/

theorem expectedStation_fiveDoor (n : Nat) : expectedStation .fiveDoor n = true ↔ n ≤ 4 := by
  simp [expectedStation]

theorem expectedStation_threeDoor (n : Nat) : expectedStation .threeDoor n = true ↔ n = 0 ∨ n = 1 ∨ n = 4 := by
  simp [expectedStation, or_assoc]

theorem strapsValid_iff (x : Straps) :
    strapsValid x = true ↔
      x.position.val ≤ 4 ∧ (x.body = .threeDoor → x.position ≠ 2 ∧ x.position ≠ 3) := by
  rcases x with ⟨position, side, body, rf⟩
  cases body
  · simp [strapsValid, expectedStation]
  · have hfour : ∀ p : Fin 8, (p.val ≤ 4 ∧ (p.val = 0 ∨ p.val = 1 ∨ p.val = 4)) ↔ (p.val ≤ 4 ∧ p ≠ 2 ∧ p ≠ 3) := by
      decide
    simpa [strapsValid, expectedStation_threeDoor] using hfour position

theorem isDriverStation_iff (s : State) :
    isDriverStation s = true ↔ s.straps.position = driverNumber s.straps := by
  simp [isDriverStation, ownNumber]

/-! ## The blocks of a station that starts (R26, R44) -/

/-- The station before its latch is looked at (R26 steps 1 to 4). -/
def booted (i : PowerOnInputs) (s : State) : State := bootBlocks i s.pending (tornStore s)

/-- The target that R44 gives an observed position, with the door open or closed. -/
def bootTarget (doorOpen : Bool) : LatchPos → LatchTarget
  | .unlocked => .unlocked
  | .locked => .locked
  | .deadlocked => if doorOpen then .unlocked else .deadlocked
  | .unknown => .unlocked

/-- Step 4 of R44 changes the latch alone. -/
theorem bootDoor_frame (s : State) : bootDoor s = { s with latch := (bootDoor s).latch } := by
  unfold bootDoor
  split_ifs <;> rfl

/-- A write of UNLOCKED from rest at DEADLOCKED starts a pursuit of it (R46). -/
theorem latchWrite_unlocked_bootLatch (ok : Bool) :
    (latchWrite ok .unlocked (bootLatch .deadlocked)).observed = .deadlocked ∧
      (latchWrite ok .unlocked (bootLatch .deadlocked)).target = .unlocked := by
  cases ok <;> decide

theorem bootDoor_latch (i : PowerOnInputs) (s : State) :
    (bootDoor (booted i s)).latch.observed = positionOf i.latchA i.latchB ∧
      (bootDoor (booted i s)).latch.target = bootTarget i.doorOpen (positionOf i.latchA i.latchB) := by
  have hlatch : (booted i s).latch = bootLatch (positionOf i.latchA i.latchB) := rfl
  have hdoor : (booted i s).pins.doorOpen = i.doorOpen := rfl
  by_cases hdead : i.doorOpen = true ∧ positionOf i.latchA i.latchB = .deadlocked
  · obtain ⟨ho, hp⟩ := hdead
    have hcond : ((booted i s).pins.doorOpen && (booted i s).latch.observed == .deadlocked) = true := by
      simp [hdoor, hlatch, ho, hp, bootLatch]
    rw [bootDoor, if_pos hcond, ho, hp]
    split
    · exact ⟨hp, rfl⟩
    · rw [writeTarget_unlocked, hlatch, hp]
      exact latchWrite_unlocked_bootLatch _
  · have hcond : ¬ ((booted i s).pins.doorOpen && (booted i s).latch.observed == .deadlocked) = true := by
      simpa [hdoor, hlatch, bootLatch] using hdead
    rw [bootDoor, if_neg hcond, hlatch]
    refine ⟨rfl, ?_⟩
    cases hp : positionOf i.latchA i.latchB with
    | deadlocked =>
      have ho : i.doorOpen = false := by simpa [hp] using hdead
      rw [ho]
      rfl
    | unlocked | locked | unknown => rfl

/-- With invalid straps no drive starts (R27). -/
theorem bootDoor_latch_of_invalid (i : PowerOnInputs) (s : State) (h : strapsValid i.straps = false) :
    (bootDoor (booted i s)).latch.phase = .idle ∧ (bootDoor (booted i s)).latch.supplyWait = none := by
  have hc : configFault (booted i s) = true := (configFault_iff _).mpr h
  unfold bootDoor
  rw [if_pos hc]
  split <;> exact ⟨rfl, rfl⟩

/-! ## The first STATE (R26, R33) -/

/-- A STATE that enters an empty queue. -/
theorem placeState_of_empty {s : State} (hs : s.link.state ≠ .stuck) (htx : s.link.tx = [])
    (he : s.power.entry ≠ .settling) :
    placeState s =
      { s with
        link :=
          { s.link with tx :=
            [fresh { kind := 8, sender := BitVec.ofFin s.straps.position, payload := encodeState (ownState s) }] }
        roster := { s.roster with lastPlaced := some (ownState s), period := some 0 } } := by
  have hroom := enqueue_of_room (ownTelegram s kState (encodeState (ownState s))) s.link hs (by simp [htx])
    (by simp [htx])
  rw [htx] at hroom
  unfold placeState
  dsimp only
  rw [if_neg he, place_of_not_refused _ _ (by rw [hroom]; exact nofun)]
  dsimp only
  rw [hroom]
  rfl

theorem configFault_bootDoor (i : PowerOnInputs) (s : State) :
    configFault (bootDoor (booted i s)) = !strapsValid i.straps := by
  rw [bootDoor_frame]
  rfl

theorem start_of_valid (i : PowerOnInputs) (s : State) (h : strapsValid i.straps = true) :
    start i s = placeState (bootDoor (booted i s)) :=
  if_neg (by rw [← booted, configFault_bootDoor, h]; decide)

theorem start_of_invalid (i : PowerOnInputs) (s : State) (h : strapsValid i.straps = false) :
    start i s = enterConfigFault (bootDoor (booted i s)) :=
  if_pos (by rw [← booted, configFault_bootDoor, h]; decide)

/-- The station with its first STATE queued (R26 step 5). -/
theorem start_of_valid_eq (i : PowerOnInputs) (s : State) (h : strapsValid i.straps = true) :
    let u := bootDoor (booted i s)
    start i s =
      { u with
        link :=
          { u.link with tx :=
            [fresh { kind := 8, sender := BitVec.ofFin i.straps.position, payload := encodeState (ownState u) }] }
        roster := { u.roster with lastPlaced := some (ownState u), period := some 0 } } := by
  rw [start_of_valid i s h, placeState_of_empty] <;> rw [bootDoor_frame]
  · rfl
  · exact nofun
  · rfl
  · exact nofun

/-! ## The end of the start -/

theorem conclude_of_nothing {s : State} (hr : ReportLaw s) (hj : judgeSleep s = s) : conclude s = s := by
  have hreport : reportChanges s = s := by
    rw [reportChanges, reportOnce_of_reportLaw hr, reportOnce_of_reportLaw hr]
  unfold conclude
  split
  · rw [hreport, hj, hreport]
  · rfl

/-- With a telegram queued, or with invalid straps, sleep entry does not begin (R178). -/
theorem judgeSleep_of_not_ready {s : State} (he : s.power.entry = .none) (h : s.link.tx ≠ [] ∨ configFault s = true) :
    judgeSleep s = s := by
  have hready : ¬ ready s = true := by
    rcases h with h | h <;> simp [ready, readyApart, he, h]
  by_cases ha : s.power.asleep = true
  · exact judgeSleep_of_asleep ha
  · rw [judgeSleep_of_none (by simpa using ha) he, if_neg hready]

/-- A station that starts has nothing to report beyond its first STATE, and is not ready for sleep. -/
theorem conclude_start (i : PowerOnInputs) (s : State) : conclude (start i s) = start i s := by
  cases h : strapsValid i.straps with
  | true =>
    have hplace : hasPlace (bootDoor (booted i s)).link := by
      rw [bootDoor_frame]
      exact .inl (Nat.zero_lt_succ 5)
    have hfaults := (placeState_of_hasPlace _ hplace).1
    refine conclude_of_nothing (fun _ => ?_) (judgeSleep_of_not_ready ?_ (.inl ?_))
    · rw [start_of_valid i s h]
      exact fieldsChanged_placeState_of_summary _ (congrArg Faults.summary hfaults)
    · rw [start_of_valid_eq i s h, bootDoor_frame]
      rfl
    · rw [start_of_valid_eq i s h]
      exact List.cons_ne_nil _ _
  | false =>
    rw [start_of_invalid i s h]
    have hfault : configFault (enterConfigFault (bootDoor (booted i s))) = true :=
      (configFault_bootDoor i s).trans (by rw [h]; rfl)
    refine conclude_of_nothing (fun ha => ?_) (judgeSleep_of_not_ready ?_ (.inr hfault))
    · exact absurd ha (by rw [(idle_of_configFault _ hfault).2.1]; decide)
    · rw [bootDoor_frame]; rfl

/-! ## Loading (R168, R183) -/

theorem all_toList_iff {α : Type} {n : Nat} (v : Vector α n) (p : α → Bool) :
    v.toArray.toList.all p = true ↔ ∀ k : Fin n, p v[k] = true := by
  simp [toList_eq_map_finRange, List.all_eq_true]

theorem optionSetInRange_iff (o : OptionSet) :
    optionSetInRange o = true ↔
      (o.relock = 0 ∨ (30 ≤ o.relock ∧ o.relock ≤ 120)) ∧ 20 ≤ o.sTh ∧ o.sTh ≤ 80 ∧
        ∀ k : Fin 6, -32 ≤ o.offsets[k] ∧ o.offsets[k] ≤ 31 := by
  simp only [optionSetInRange, Bool.and_eq_true, all_toList_iff]
  simp [and_assoc]

theorem windowRecordInRange_iff (w : WindowRecord) :
    windowRecordInRange w = true ↔
      (∀ t, w.pTop = some t → 400 ≤ t ∧ t ≤ 4000) ∧
        (w.knowledge = .positioned → ∃ t, w.pTop = some t ∧ w.restPosition ≤ t) ∧
        w.restPosition ≤ 4095 ∧
        ∀ k : Fin 32, 1 ≤ (w.profile[k]).n ∧ (w.profile[k]).n ≤ 65535 ∧ (w.profile[k]).learn ≤ 15 := by
  simp only [windowRecordInRange, Bool.and_eq_true, all_toList_iff]
  cases w.knowledge <;> cases w.pTop <;> simp [and_assoc]

theorem loadOptions_eq (st : Store) :
    loadOptions st =
      if st.optionsCheck = recordCheck (.optionSet st.options) ∧ optionSetInRange st.options = true then st.options
      else OptionSet.defaults := by
  simp [loadOptions]

theorem loadWindow_eq (st : Store) :
    loadWindow st =
      if st.windowCheck = recordCheck (.windowRecord st.window) ∧ windowRecordInRange st.window = true then
        if st.window.movingMarker = true then { st.window with knowledge := .unpositioned, restPosition := 0 }
        else st.window
      else WindowRecord.defaults := by
  simp [loadWindow]

theorem loadFob_of_check (st : Store) (f : Fin 4)
    (h : st.fobsCheck[f] = recordCheck (.fobEntry f st.fobs[f])) :
    loadFob st f =
      { enrolled := (st.fobs[f]).enrolled, key := (st.fobs[f]).key, counter := (st.fobs[f]).counter, lastTag := none
        candidate := none } := by
  simp only [loadFob, h, beq_self_eq_true, if_true]

theorem loadFob_of_failed (st : Store) (f : Fin 4)
    (h : st.fobsCheck[f] ≠ recordCheck (.fobEntry f st.fobs[f])) :
    loadFob st f = { enrolled := false, key := 0, counter := 0, lastTag := none, candidate := none } := by
  simp only [loadFob, beq_iff_eq, h, if_false]
  rfl

/-! ## What every start leaves -/

/-- A start changes, of the blocks as booted, the latch, the transmit queue, what the roster has placed, and the fault
record. -/
theorem start_frame (i : PowerOnInputs) (s : State) :
    start i s =
      { booted i s with
        latch := (bootDoor (booted i s)).latch
        link := { (booted i s).link with tx := (start i s).link.tx }
        roster :=
          { (booted i s).roster with
            lastPlaced := (start i s).roster.lastPlaced, period := (start i s).roster.period }
        faults := (start i s).faults } := by
  cases h : strapsValid i.straps with
  | true => rw [start_of_valid_eq i s h, bootDoor_frame]
  | false => rw [start_of_invalid i s h, bootDoor_frame]; rfl

theorem booted_fobs (i : PowerOnInputs) (s : State) (f : Fin 4) :
    (booted i s).fobs[f] = loadFob (tornStore s) f := by
  fin_cases f <;> rfl

/-- With valid straps no fault is recorded, and the first STATE is that of the station as it starts (R26, R33). -/
theorem start_reports_of_valid (i : PowerOnInputs) (s : State) (h : strapsValid i.straps = true) :
    (start i s).faults = { record := none, summary := 0 } ∧
      (start i s).roster.lastPlaced = some (ownState (start i s)) ∧ (start i s).roster.period = some 0 ∧
      (start i s).link.tx =
        [fresh { kind := 8, sender := BitVec.ofFin i.straps.position
                 payload := encodeState (ownState (start i s)) }] := by
  have hstart := start_of_valid_eq i s h
  have hown : ownState (start i s) = ownState (bootDoor (booted i s)) := by rw [hstart]; rfl
  have hfaults : (bootDoor (booted i s)).faults = { record := none, summary := 0 } := by rw [bootDoor_frame]; rfl
  rw [hown, hstart]
  exact ⟨hfaults, rfl, rfl, rfl⟩

/-- With invalid straps nothing is placed, the latch stays at rest, and the straps stand in the fault record (R27). -/
theorem start_reports_of_invalid (i : PowerOnInputs) (s : State) (h : strapsValid i.straps = false) :
    (start i s).link.tx = [] ∧ (start i s).roster.lastPlaced = none ∧ (start i s).latch.phase = .idle ∧
      (start i s).latch.supplyWait = none ∧
      (start i s).faults =
        { record := some
            { kind := .config, d0 := BitVec.ofNat 8 i.straps.position.val
              d1 := (match i.straps.body with | .fiveDoor => 0 | .threeDoor => 1), d2 := 0, time := 0
              more := 0 }
          summary := 1 } := by
  obtain ⟨hphase, hwait⟩ := bootDoor_latch_of_invalid i s h
  rw [start_of_invalid i s h]
  refine ⟨?_, ?_, hphase, hwait, ?_⟩ <;> rw [bootDoor_frame] <;> rfl

end Sys2Proof.Machine

/-- Settles O22: the start is the station as booted with its latch, its report and its faults, and it concludes with
nothing more; the loads are decided by the check and the ranges. -/
theorem powerOnValues : Obligations.PowerOnValues := by
  refine ⟨fun n => ⟨expectedStation_fiveDoor n, expectedStation_threeDoor n⟩, strapsValid_iff, isDriverStation_iff,
    fun i s => ⟨start i s, ?_⟩, fun st => ?_⟩
  · have hframe := start_frame i s
    obtain ⟨hobserved, htarget⟩ := bootDoor_latch i s
    have hlatch := congrArg State.latch hframe
    have hfobs := congrArg State.fobs hframe
    have hpinch := congrArg State.pinch hframe
    have hpending := congrArg State.pending hframe
    have hnow := congrArg State.now hframe
    have hstraps := congrArg State.straps hframe
    have hvehicle := congrArg State.vehicle hframe
    have hpower := congrArg State.power hframe
    have hroster := congrArg State.roster hframe
    have hlink := congrArg State.link hframe
    have hwindow := congrArg State.window hframe
    have hsupply := congrArg State.supply hframe
    have hsettings := congrArg State.settings hframe
    have hlock := congrArg State.lock hframe
    have hcrash := congrArg State.crash hframe
    refine ⟨congrArg Host.Outcome.next (conclude_start i s), hpending, hnow, hstraps,
      congrArg Link.state hlink, congrArg Link.synchronised hlink, congrArg Link.rx hlink,
      congrArg Link.isolation hlink, congrArg Roster.peers hroster, hvehicle,
      (congrArg Latch.observed hlatch).trans hobserved,
      (congrArg Latch.target hlatch).trans htarget, congrArg LockLogic.action hlock, congrArg LockLogic.driveAwayArmed hlock,
      congrArg LockLogic.sequence hlock, congrArg Crash.hold hcrash, congrArg Crash.ownNumber hcrash,
      congrArg Window.bridge hwindow, congrArg Window.move hwindow, congrArg Window.heat hwindow,
      congrArg Window.reversals hwindow, congrArg Settings.writes hsettings, congrArg Power.asleep hpower,
      congrArg Supply.value hsupply, congrArg Supply.discard hsupply, congrArg Supply.sampleTimer hsupply,
      hpinch, congrArg Window.knowledge hwindow, congrArg Window.pTop hwindow,
      congrArg Window.p hwindow, congrArg Window.restPosition hwindow, congrArg Window.movingMarker hwindow,
      congrArg Settings.options hsettings, congrArg Settings.optionImage hsettings, congrArg Settings.store hsettings,
      fun f => (congrArg (fun v : Vector Fob 4 => v[f]) hfobs).trans (booted_fobs i s f),
      start_reports_of_valid i s, start_reports_of_invalid i s⟩
  · refine ⟨?_, ?_, fun f => ?_⟩
    · intro o good
      have hgood : good ↔ st.optionsCheck = recordCheck (.optionSet st.options) ∧ optionSetInRange st.options = true := by
        rw [optionSetInRange_iff]
      rw [loadOptions_eq, hgood]
      exact ⟨fun h => if_pos h, fun h => if_neg h⟩
    · intro w good
      have hgood : good ↔
          st.windowCheck = recordCheck (.windowRecord st.window) ∧ windowRecordInRange st.window = true := by
        rw [windowRecordInRange_iff]
      rw [loadWindow_eq, hgood]
      exact ⟨fun h hm => (if_pos h).trans (if_neg (Bool.eq_false_iff.mp hm)), fun h hm => (if_pos h).trans (if_pos hm),
        fun h => if_neg h⟩
    · exact ⟨loadFob_of_check st f, loadFob_of_failed st f⟩

end

section
/-! SUPPORT. The latch record: the direction a target needs, pursuits and drives in the words of the statements, and
what each write leaves of the record (R45 to R47, R54 to R56). -/

open Sys2Proof Sys2Proof.Machine Sys2Proof.Safety Sys2Proof.Claims

namespace Sys2Proof.Machine

/-! ## Directions (section 3.2, R46) -/

/-- No drive is needed exactly where the latch stands at its target. -/
theorem needDir_eq_none_iff (t : LatchTarget) (o : LatchPos) : needDir t o = none ↔ targetPos t = o := by
  cases t <;> cases o <;> decide

theorem needDir_unlocked (o : LatchPos) : needDir .unlocked o = if o = .unlocked then none else some .back := by
  cases o <;> rfl

theorem needDir_locked (o : LatchPos) :
    needDir .locked o =
      if o = .locked then none else if o = .deadlocked then some .back else some .forward := by
  cases o <;> rfl

theorem needDir_deadlocked (o : LatchPos) :
    needDir .deadlocked o = if o = .deadlocked then none else some .forward := by
  cases o <;> rfl

theorem opposite_eq_iff (d r : LatchDir) : d = r.opposite ↔ r ≠ d := by
  cases d <;> cases r <;> decide

theorem oppositeWrite_iff (t : LatchTarget) (l : Latch) :
    oppositeWrite t l = true ↔ ∃ d r, needDir t l.observed = some d ∧ l.direction = some r ∧ r ≠ d := by
  unfold oppositeWrite
  cases needDir t l.observed <;> cases l.direction <;> simp [opposite_eq_iff]

/-! ## Drives and pursuits (R46, R47, R50, R54 to R56) -/

theorem enterDrive_eq (ok : Bool) (d : LatchDir) (l : Latch) : enterDrive ok d l = entered ok d l := by
  cases ok <;> rfl

theorem beginChop_eq (l : Latch) : beginChop l = chopped l := by
  simp only [beginChop, chopped, latchChopped_iff]

theorem startPursuit_eq (ok : Bool) (t : LatchTarget) (crash : Bool) (l : Latch) :
    startPursuit ok t crash l = pursuit ok t crash l := by
  unfold startPursuit pursuit
  cases hd : needDir t l.observed with
  | none =>
    rw [if_pos ((needDir_eq_none_iff t _).mp hd)]
    rfl
  | some d =>
    have hne : targetPos t ≠ l.observed := fun h => by simp [(needDir_eq_none_iff t _).mpr h] at hd
    rw [if_neg hne]
    cases ok <;> cases crash <;> rfl

/-! ## A taken write, phase by phase (R45, R46) -/

/-- A write that R45 takes is one of R46. -/
theorem latchWriteGated_taken {hold door : Bool} {t : LatchTarget} (ok : Bool) (l : Latch)
    (hh : hold = false ∨ t = .unlocked) (hd : door = false ∨ t ≠ .deadlocked) :
    latchWriteGated hold door ok t l = latchWrite ok t l := by
  refine if_neg ?_
  rcases hh with rfl | rfl <;> rcases hd with rfl | hd <;> simp_all

theorem crashUnlock_of_crashPursuit (ok : Bool) {l : Latch} (h : l.crashPursuit = true) : crashUnlock ok l = l :=
  if_pos h

variable (ok : Bool) (t : LatchTarget) {l : Latch}

theorem latchWrite_of_rest (hp : l.phase = .idle) (hw : l.supplyWait = none) :
    latchWrite ok t l = if t ≠ l.target ∨ targetPos t ≠ l.observed then pursuit ok t false l else l := by
  simp [latchWrite, hp, hw, startPursuit_eq]

theorem latchWrite_of_waiting {w : Nat} (hp : l.phase = .idle) (hw : l.supplyWait = some w) :
    latchWrite ok t l =
      if t = l.target then l
      else if oppositeWrite t l = true then pursuit ok t false l
      else if targetPos t = l.observed then endPursuit (ordinaryTarget t l)
      else ordinaryTarget t l := by
  simp [latchWrite, hp, hw, startPursuit_eq, needDir_eq_none_iff]

theorem latchWrite_of_driving (hp : l.phase = .drive ∨ l.phase = .regulate) :
    latchWrite ok t l =
      if t = l.target then l
      else if oppositeWrite t l = true then brakeForNew (ordinaryTarget t l)
      else ordinaryTarget t l := by
  rcases hp with hp | hp <;> simp [latchWrite, hp]

theorem latchWrite_of_overtravel (hp : l.phase = .overtravel) :
    latchWrite ok t l =
      if t = l.target then l
      else if oppositeWrite t l = true then brakeForNew (ordinaryTarget t l)
      else if targetPos t = l.observed then ordinaryTarget t l
      else { ordinaryTarget t l with phase := l.resume.phase } := by
  simp [latchWrite, hp, needDir_eq_none_iff]

theorem latchWrite_of_brake (hp : l.phase = .brake) :
    latchWrite ok t l = if t = l.target then l else { ordinaryTarget t l with brakeForPassed := false } := by
  simp [latchWrite, hp]

theorem latchWrite_of_pause (hp : l.phase = .pause) :
    latchWrite ok t l = if t = l.target then l else pursuit ok t false l := by
  simp [latchWrite, hp, startPursuit_eq]

theorem latchWrite_of_failed (hp : l.phase = .failed) : latchWrite ok t l = pursuit ok t false l := by
  simp only [latchWrite, hp, startPursuit_eq]

/-- No direction is the reverse of the record's where none is needed. -/
theorem not_oppositeWrite_of_there (h : targetPos t = l.observed) : ¬ oppositeWrite t l = true := by
  simp [oppositeWrite, (needDir_eq_none_iff t _).mpr h]

/-! ## A crash unlock write (R56) -/

theorem regulateInPlace_eq (l : Latch) :
    regulateInPlace l =
      { chopped l with
        target := .unlocked, crashPursuit := true, regLimit := .crash
        regElapsed := 0, resume := .regulate, phase := .regulate, phaseTimer := 0 } := by
  rw [regulateInPlace, beginChop_eq]

theorem crashUnlock_of_idle (hc : l.crashPursuit = false) (hp : l.phase = .idle) :
    crashUnlock ok l =
      if l.supplyWait = none ∧ l.observed = .unlocked then l else pursuit ok .unlocked true l := by
  simp [crashUnlock, hc, hp, startPursuit_eq]

theorem crashUnlock_of_standing (hc : l.crashPursuit = false) (hp : l.phase = .pause ∨ l.phase = .failed) :
    crashUnlock ok l = pursuit ok .unlocked true l := by
  rcases hp with hp | hp <;> simp [crashUnlock, hc, hp, startPursuit_eq]

theorem crashUnlock_of_driving (hc : l.crashPursuit = false) (hp : l.phase = .drive ∨ l.phase = .regulate) :
    crashUnlock ok l =
      if l.direction = some .back then regulateInPlace l
      else brakeForNew { l with target := .unlocked, crashPursuit := true, regLimit := .crash } := by
  rcases hp with hp | hp <;> simp only [crashUnlock, hc, hp] <;> rfl

theorem crashUnlock_of_overtravel (hc : l.crashPursuit = false) (hp : l.phase = .overtravel) :
    crashUnlock ok l =
      if l.direction = some .back then
        if l.target = .unlocked then { beginChop l with crashPursuit := true, resume := .regulate }
        else regulateInPlace l
      else brakeForNew { l with target := .unlocked, crashPursuit := true, regLimit := .crash } := by
  simp only [crashUnlock, hc, hp]
  rfl

theorem crashUnlock_of_brake (hc : l.crashPursuit = false) (hp : l.phase = .brake) :
    crashUnlock ok l =
      { l with target := .unlocked, crashPursuit := true, regLimit := .crash, brakeForPassed := false } := by
  simp only [crashUnlock, hc, hp]
  rfl

end Sys2Proof.Machine

/-- Settles O38: the gates of R45, the directions, and the table of R46 phase by phase. -/
theorem latchWrites : Obligations.LatchWrites := by
  refine ⟨fun hold door ok t l => ⟨fun hh ht => ?_, fun hd ht => ?_, latchWriteGated_taken ok l,
    crashUnlock_of_crashPursuit ok⟩, fun o => ⟨needDir_unlocked o, needDir_locked o, needDir_deadlocked o⟩, ?_⟩
  · exact latchWriteGated_refused hold door ok t l (by simp [hh, ht])
  · exact latchWriteGated_refused hold door ok t l (by simp [hd, ht])
  · intro ok t l
    dsimp only
    rw [← oppositeWrite_iff]
    refine ⟨?_, ?_, ?_, ?_, ?_, ?_, ?_⟩
    · intro hp hw
      rw [latchWrite_of_rest ok t hp hw]
      exact ⟨fun h => if_pos h, fun ht hpos => if_neg fun h => h.elim ht (· hpos)⟩
    · intro w hp hw
      rw [latchWrite_of_waiting ok t hp hw]
      refine ⟨fun ht => if_pos (not_not.mp ht), fun ht ho => ?_, fun ht hpos => ?_, fun ht ho hpos => ?_⟩
      · rw [if_neg ht, if_pos ho]
      · rw [if_neg ht, if_neg (not_oppositeWrite_of_there t hpos), if_pos hpos]
        rfl
      · rw [if_neg ht, if_neg ho, if_neg hpos]
        rfl
    · intro hp
      rw [latchWrite_of_driving ok t hp]
      refine ⟨fun ht => if_pos (not_not.mp ht), fun ht ho => ?_, fun ht ho => ?_⟩
      · rw [if_neg ht, if_pos ho]
        rfl
      · rw [if_neg ht, if_neg ho]
        rfl
    · intro hp
      rw [latchWrite_of_overtravel ok t hp]
      refine ⟨fun ht => if_pos (not_not.mp ht), fun ht ho => ?_, fun ht hpos => ?_, fun ht ho hpos => ?_⟩
      · rw [if_neg ht, if_pos ho]
        rfl
      · rw [if_neg ht, if_neg (not_oppositeWrite_of_there t hpos), if_pos hpos]
        rfl
      · rw [if_neg ht, if_neg ho, if_neg hpos]
        rfl
    · intro hp
      rw [latchWrite_of_brake ok t hp]
      exact ⟨fun ht => if_pos (not_not.mp ht), fun ht => if_neg ht⟩
    · intro hp
      rw [latchWrite_of_pause ok t hp]
      exact ⟨fun ht => if_pos (not_not.mp ht), fun ht => if_neg ht⟩
    · exact latchWrite_of_failed ok t

/-- Settles O39: the rows of R56, by the phase at the write. -/
theorem crashUnlockTable : Obligations.CrashUnlockTable := by
  intro ok l hc
  dsimp only
  refine ⟨fun hp hw ho => ?_, ?_, fun hp hd => ?_, fun hp hd => ?_, fun hp hd ht => ?_, fun hp hd ht => ?_,
    crashUnlock_of_brake ok hc⟩
  · rw [crashUnlock_of_idle ok hc hp, if_pos ⟨hw, ho⟩]
  · rintro (⟨hp, hmoves⟩ | hp | hp)
    · rw [crashUnlock_of_idle ok hc hp, if_neg fun h => hmoves.elim (· h.1) (· h.2)]
    · exact crashUnlock_of_standing ok hc (.inl hp)
    · exact crashUnlock_of_standing ok hc (.inr hp)
  · rw [crashUnlock_of_driving ok hc hp, if_pos hd, regulateInPlace_eq]
  · rcases or_assoc.mpr hp with hp | hp
    · rw [crashUnlock_of_driving ok hc hp, if_neg hd]
      rfl
    · rw [crashUnlock_of_overtravel ok hc hp, if_neg hd]
      rfl
  · rw [crashUnlock_of_overtravel ok hc hp, if_pos hd, if_pos ht, beginChop_eq]
  · rw [crashUnlock_of_overtravel ok hc hp, if_pos hd, if_neg ht, regulateInPlace_eq]

end

section
/-! SUPPORT. A new observed position in each phase of the latch (R43, R48 to R50, R52, R57). -/

open Sys2Proof Sys2Proof.Machine Sys2Proof.Safety Sys2Proof.Claims

namespace Sys2Proof.Machine

/-! ## External moves (R57) -/

/-- In crash hold a latch moved by hand off UNLOCKED is driven back (R57). -/
theorem externalMove_of_hold (door ok : Bool) {l : Latch} (h : l.observed = .locked ∨ l.observed = .deadlocked) :
    externalMove true door ok l = pursuit ok .unlocked true l := by
  rcases h with h | h <;> simp only [externalMove, h, if_true, startPursuit_eq]

/-- With the own door open a latch deadlocked by hand is driven back (R57, R58). -/
theorem externalMove_of_doorOpen (ok : Bool) {l : Latch} (h : l.observed = .deadlocked) :
    externalMove false true ok l = pursuit ok .unlocked false l := by
  simp only [externalMove, h, if_true, startPursuit_eq]
  rfl

/-! ## A new observed position, phase by phase -/

section
variable (hold door ok : Bool) {l : Latch}

variable (o : LatchPos)

theorem latchObserve_of_same (h : o = l.observed) : latchObserve hold door ok o l = l := if_pos h

variable {o} (ho : o ≠ l.observed)
include ho

theorem latchObserve_of_driving (hp : l.phase = .drive ∨ l.phase = .regulate) :
    latchObserve hold door ok o l =
      if o = targetPos l.target then
        { l with observed := o, phase := .overtravel, phaseTimer := 0, resume := drivePhaseOf l.phase }
      else if passed l o = true then
        { l with observed := o, phase := .brake, phaseTimer := 0, resume := drivePhaseOf l.phase,
                 brakeForPassed := true }
      else { l with observed := o } := by
  rcases hp with hp | hp <;> simp only [latchObserve, if_neg ho, hp]

theorem latchObserve_of_overtravel (hp : l.phase = .overtravel) :
    latchObserve hold door ok o l =
      if o = targetPos l.target then { l with observed := o }
      else externalMove hold door ok (endPursuit { l with observed := o }) := by
  simp only [latchObserve, if_neg ho, hp]

theorem latchObserve_of_brake (hp : l.phase = .brake) : latchObserve hold door ok o l = { l with observed := o } := by
  simp only [latchObserve, if_neg ho, hp]

theorem latchObserve_of_pause (hp : l.phase = .pause) :
    latchObserve hold door ok o l =
      if o = targetPos l.target then endPursuit { l with observed := o } else { l with observed := o } := by
  simp only [latchObserve, if_neg ho, hp]

theorem latchObserve_of_waiting {w : Nat} (hp : l.phase = .idle) (hw : l.supplyWait = some w) :
    latchObserve hold door ok o l =
      if o = targetPos l.target then endPursuit { l with observed := o } else { l with observed := o } := by
  simp only [latchObserve, if_neg ho, hp, hw, Option.isSome_some, if_true]

theorem latchObserve_of_standing (hp : (l.phase = .idle ∧ l.supplyWait = none) ∨ l.phase = .failed) :
    latchObserve hold door ok o l = externalMove hold door ok { l with observed := o } := by
  rcases hp with ⟨hp, hw⟩ | hp
  · simp [latchObserve, ho, hp, hw]
  · simp only [latchObserve, if_neg ho, hp]

end

/-- The target LOCKED is passed forward at DEADLOCKED and back at UNLOCKED (R49). -/
theorem passed_iff (l : Latch) (o : LatchPos) :
    passed l o = true ↔
      l.target = .locked ∧
        ((l.direction = some .forward ∧ o = .deadlocked) ∨ (l.direction = some .back ∧ o = .unlocked)) := by
  simp [passed]

theorem latchSwitchChange_of_active {s : State} (a b : Bool) (ha : active s = true)
    (hw : s.pins.wakeDebounce = none) :
    exec (.latchSwitchChange a b) s =
      .next (conclude { s with latch :=
        (latchObserve s.crash.hold s.pins.doorOpen (decide (70 ≤ s.supply.value)) (positionOf a b) s.latch) }) :=
  exec_of_event (by rfl) (operating_of_active ha) (by simp only [inputChange_of_active _ ha hw, latchSupplyOk])

end Sys2Proof.Machine

/-- Settles O40: the switches give the observed position, and each phase has its own answer to a new one. -/
theorem latchSwitchRow : Obligations.LatchSwitchRow := by
  refine ⟨fun a b s ha hw => latchSwitchChange_of_active a b ha hw, fun hold door ok o l => ?_⟩
  refine ⟨latchObserve_of_same hold door ok o, fun ho => ⟨fun hp => ?_, fun hp hne => ?_,
    latchObserve_of_brake hold door ok ho, fun hp => ?_, fun w hp hw => ?_, fun hp => ?_⟩⟩
  · rw [latchObserve_of_driving hold door ok ho hp]
    refine ⟨fun ht => if_pos ht, fun ht hd hpos => ?_, fun ht hd hpos => ?_, fun hne hno => ?_⟩
    · rw [if_neg (by simp [hpos, ht, targetPos]), if_pos ((passed_iff l o).mpr ⟨ht, .inl ⟨hd, hpos⟩⟩)]
      rfl
    · rw [if_neg (by simp [hpos, ht, targetPos]), if_pos ((passed_iff l o).mpr ⟨ht, .inr ⟨hd, hpos⟩⟩)]
      rfl
    · rw [if_neg hne, if_neg]
      rw [passed_iff]
      rintro ⟨ht, ⟨-, hpos⟩ | ⟨-, hpos⟩⟩ <;> simp [ht, hpos] at hno
  · rw [latchObserve_of_overtravel hold door ok ho hp, if_neg hne]
    exact (latchObserve_of_standing hold door ok (l := endPursuit l) ho (.inl ⟨rfl, rfl⟩)).symm
  · rw [latchObserve_of_pause hold door ok ho hp]
    exact ⟨fun ht => if_pos ht, fun ht => if_neg ht⟩
  · rw [latchObserve_of_waiting hold door ok ho hp hw]
    exact ⟨fun ht => if_pos ht, fun ht => if_neg ht⟩
  · rw [latchObserve_of_standing hold door ok ho hp]
    refine ⟨fun h => ?_, fun h => ?_, fun h hh => ?_, fun h hh hd => ?_, fun h hh => ?_, fun h hh hd => ?_⟩
    · subst h; rfl
    · subst h; rfl
    · subst h hh; rfl
    · subst h hh hd; rfl
    · subst hh
      exact externalMove_of_hold door ok h
    · subst hh hd
      exact externalMove_of_doorOpen ok h

end

section
/-! SUPPORT. The supply: samples, the comparator and the brown-out, and what a kept value does to the latch and to a run
(R50, R53, R108, R176, R177). -/

open Sys2Proof Sys2Proof.Machine Sys2Proof.Safety Sys2Proof.Claims

namespace Sys2Proof.Machine

/-! ## The brown-out (R177) -/

variable {s : State}

theorem supplyComparatorChange_eq (b : Bool) (s : State) :
    exec (.supplyComparatorChange b) s =
      .next { s with supply :=
        { s.supply with
          below := b
          brownOutTimer :=
            if b = true ∧ running s = true then some (s.supply.brownOutTimer.getD 0) else none } } := by
  simp only [← Bool.and_eq_true]
  rfl

/-- A station held in reset concludes nothing. -/
theorem brownOut_of_below (hr : running s = true) (hb : s.supply.below = true) :
    exec .brownOut s = .next (holdInReset s) := by
  rw [exec_of_event (u := holdInReset s) (by rfl) (by simp [hr, hb]) rfl, conclude_of_held _ rfl]

/-- Every output of a station held in reset is off. -/
theorem holdInReset_outputs (s : State) :
    latchBridge (holdInReset s).latch = .off ∧ windowBridge (holdInReset s).window = .off ∧
      childOutput (holdInReset s).child = none ∧ releaseOutput (holdInReset s).release = false ∧
      lfBurst (holdInReset s) = none := ⟨rfl, rfl, rfl, rfl, rfl⟩

/-! ## Samples (R176) -/

theorem supplySample_of_reading (hr : running s = true) (ha : s.power.asleep = false) (mv : Nat) :
    exec (.supplySample mv) s = .next (conclude (takeSample (min 255 (mv / 100)) s)) :=
  exec_of_event (by rfl) ((reading_iff s).mpr ⟨hr, ha⟩) rfl

/-- The first sample after a wake is discarded. -/
theorem takeSample_of_discard (v : Nat) (hd : s.supply.discard = true) :
    takeSample v s = { s with supply := { s.supply with sampleTimer := some 0, discard := false } } := by
  simp only [takeSample, hd, if_true]

theorem takeSample_of_kept (v : Nat) (hd : s.supply.discard = false) :
    takeSample v s = keepSample v { s with supply := { s.supply with sampleTimer := some 0 } } := by
  rw [takeSample, if_neg (by simp [hd])]

/-- With invalid straps a kept value reaches no block (R27). -/
theorem keepSample_of_configFault (v : Nat) (hc : configFault s = true) :
    keepSample v s = { s with supply := { s.supply with value := v } } := by
  have ho : operating { s with supply := { s.supply with value := v } } = false :=
    (idle_of_configFault { s with supply := { s.supply with value := v } } hc).1
  rw [keepSample, if_neg (by simp [ho])]

/-- A kept value is handed to latch drive and to window drive (R50, R53, R108). -/
theorem keepSample_of_operating (v : Nat) (ho : operating s = true) :
    keepSample v s =
      { s with
        supply := { s.supply with value := v }
        latch := latchSupply (decide (70 ≤ v)) s.latch
        window := if s.straps.position = 4 then s.window else windowSupply v s.window } := by
  have hw : hasWindow { s with supply := { s.supply with value := v } } = true ↔ ¬ s.straps.position = 4 :=
    (hasWindow_iff _).trans (and_iff_right ho)
  rw [keepSample, if_pos (show operating { s with supply := { s.supply with value := v } } = true from ho)]
  by_cases h4 : s.straps.position = 4
  · rw [if_neg (hw.not.mpr (not_not.mpr h4)), if_pos h4]
    rfl
  · rw [if_pos (hw.mpr h4), if_neg h4]
    rfl

/-! ## A kept value at the window and at the latch (R50, R53, R108) -/

theorem windowSupply_of_driving (v : Nat) {w : Window} (hw : w.bridge = .drive) :
    windowSupply v w =
      { w with excursion := if 90 ≤ v ∧ v ≤ 160 then none else some (w.excursion.getD 0) } := by
  rw [windowSupply, if_pos hw]
  cases w.excursion <;> rfl

variable {l : Latch}

/-- A low value suspends the drive, and the phase that was driving is the one to resume (R53). -/
theorem latchSupply_low_of_driving (hp : l.phase = .drive ∨ l.phase = .regulate) :
    latchSupply false l = { l with phase := .idle, supplyWait := some 0, resume := drivePhaseOf l.phase } := by
  rcases hp with hp | hp <;> simp [latchSupply, hp]

theorem latchSupply_low_of_overtravel (hp : l.phase = .overtravel) : latchSupply false l = endPursuit l := by
  simp [latchSupply, hp]

/-- A wait ends with the drive that was held back (R50). -/
theorem latchSupply_of_waiting (ok : Bool) {t : Nat} {d : LatchDir} (hp : l.phase = .idle) (hw : l.supplyWait = some t)
    (hd : needDir l.target l.observed = some d) : latchSupply ok l = if ok = true then entered true d l else l := by
  cases ok <;> simp [latchSupply, hp, hw, hd, enterDrive_eq]

theorem latchSupply_high_of_driving (hp : l.phase = .drive ∨ l.phase = .regulate ∨ l.phase = .overtravel) :
    latchSupply true l = l := by
  rcases hp with hp | hp | hp <;> simp [latchSupply, hp]

theorem latchSupply_of_off (ok : Bool) (hp : l.phase = .brake ∨ l.phase = .pause ∨ l.phase = .failed) :
    latchSupply ok l = l := by
  rcases hp with hp | hp | hp <;> simp only [latchSupply, hp]

end Sys2Proof.Machine

/-- Settles O23: the comparator, the brown-out and the samples, then a kept value at the window and at the latch. -/
theorem supplyRows : Obligations.SupplyRows := by
  refine ⟨fun s => ⟨fun b => supplyComparatorChange_eq b s, fun hr hb => ?_,
      fun hr ha mv => ⟨fun hd => ?_, fun hd hc => ?_, fun hd hc => ?_⟩⟩,
    fun v w => ⟨fun hw => if_neg hw, fun hw hlo hhi => ?_, fun hw hout => ?_⟩,
    fun l => ⟨fun hp => ?_, fun hp => ?_, latchSupply_low_of_overtravel, fun t d hp hw hd => ⟨?_, ?_⟩,
      latchSupply_high_of_driving, fun hp ok => latchSupply_of_off ok hp⟩⟩
  · exact ⟨brownOut_of_below hr hb, rfl, rfl, rfl, rfl, holdInReset_outputs s⟩
  · rw [supplySample_of_reading hr ha, takeSample_of_discard _ hd]
  · rw [supplySample_of_reading hr ha, takeSample_of_kept _ hd, keepSample_of_configFault _ (by exact hc)]
  · rw [supplySample_of_reading hr ha, takeSample_of_kept _ hd,
      keepSample_of_operating _ (by exact (operating_iff s).mpr ⟨hr, hc⟩)]
  · rw [windowSupply_of_driving v hw, if_pos ⟨hlo, hhi⟩]
  · rw [windowSupply_of_driving v hw, if_neg (by omega)]
  · rw [latchSupply_low_of_driving (.inl hp), hp]
    rfl
  · rw [latchSupply_low_of_driving (.inr hp), hp]
    rfl
  · exact latchSupply_of_waiting true hp hw hd
  · exact latchSupply_of_waiting false hp hw hd

end

section
/-! SUPPORT. The latch bridge, the expiries of the latch and its currents (R46, R48 to R55, R59, R110, R111). -/

open Sys2Proof Sys2Proof.Machine Sys2Proof.Safety Sys2Proof.Claims

namespace Sys2Proof.Machine

/-! ## The bridge (section 3.2) -/

/-- The bridge drives in the record's direction where it is switched on (R46, R48, R55). -/
theorem latchBridge_eq (l : Latch) :
    let driven : BridgeOut := match l.direction with
      | some .forward => .forward
      | some .back => .back
      | none => .off
    latchBridge l = match l.phase with
      | .brake => .brake
      | .drive => driven
      | .regulate => if l.chopOn = true then driven else .off
      | .overtravel => if l.resume = .drive ∨ l.chopOn = true then driven else .off
      | .idle => .off
      | .pause => .off
      | .failed => .off := by
  unfold latchBridge latchDriving
  cases l.phase <;> simp <;> rfl

/-! ## The end of a brake, and the pulse limit (R49, R51, R52) -/

section
variable (ok : Bool) {l : Latch}

theorem pulseLimit_first (h : l.attempt ≤ 1) :
    pulseLimit l = ({ l with phase := .pause, phaseTimer := 0, pulseElapsed := 300000 }, false) := if_pos h

theorem pulseLimit_second (h : 1 < l.attempt) :
    pulseLimit l = (failPursuit { l with pulseElapsed := 300000 }, true) := if_neg (Nat.not_le.mpr h)

/-- The driving time at the end of a brake for a passed target: the pulse goes on through the brake (R49). -/
def pulseAtBrakeEnd (l : Latch) : Nat := min 300000 (l.pulseElapsed + (50000 - l.phaseTimer))

theorem brakeEnd_of_new (hb : l.brakeForPassed = false) :
    brakeEnd ok l = (pursuit ok l.target l.crashPursuit l, false) := by
  simp [brakeEnd, hb, startPursuit_eq]

theorem brakeEnd_of_passed (hb : l.brakeForPassed = true) :
    brakeEnd ok l =
      if l.observed = targetPos l.target then (endPursuit { l with pulseElapsed := pulseAtBrakeEnd l }, false)
      else if pulseAtBrakeEnd l = 300000 ∧ l.resume = .drive then
        pulseLimit { l with pulseElapsed := pulseAtBrakeEnd l }
      else
        (entered ok (l.direction.getD .forward).opposite { l with pulseElapsed := pulseAtBrakeEnd l }, false) := by
  simp only [brakeEnd, hb, if_true, enterDrive_eq]
  rfl

end

/-! ## Expiries at an acting station -/

section
variable {s : State}

/-- An acting station that captures for its latch is AWAKE (R181). -/
theorem capture_latch_of_active (ha : active s = true) (k : FaultKind) (a b c : Byte) (l : Latch) :
    capture k a b c { s with latch := l } = captureAwake k a b c { s with latch := l } :=
  capture_of_awake _ _ _ _ _ ((active_iff s).mp ha).2.2

/-- A LATCH_TIMEOUT is captured with the record it leaves (R52). -/
theorem withTimeout_true (ha : active s = true) (l : Latch) :
    withTimeout (l, true) s =
      captureAwake .latchTimeout ((latchTargetCode l.target).setWidth 8) ((latchPosCode l.observed).setWidth 8) 2
        { s with latch := l } :=
  capture_latch_of_active ha ..

theorem latchBrakeEnd_of_brake (ha : active s = true) (hp : s.latch.phase = .brake) :
    exec .latchBrakeEnd s =
      .next (conclude (withTimeout (brakeEnd (decide (70 ≤ s.supply.value)) s.latch) s)) :=
  exec_of_event (by rfl) (by simp [ha, hp]) rfl

/-- The brake of a new write ends with a new pursuit toward the target as it stands (R51). -/
theorem latchBrakeEnd_of_new (ha : active s = true) (hp : s.latch.phase = .brake)
    (hb : s.latch.brakeForPassed = false) :
    exec .latchBrakeEnd s =
      .next (conclude { s with latch :=
        (pursuit (decide (70 ≤ s.supply.value)) s.latch.target s.latch.crashPursuit s.latch) }) := by
  rw [latchBrakeEnd_of_brake ha hp, brakeEnd_of_new _ hb]
  rfl

theorem overtravelEnd_of_overtravel (ha : active s = true) (hp : s.latch.phase = .overtravel) :
    exec .overtravelEnd s = .next (conclude { s with latch := endPursuit s.latch }) :=
  exec_of_event (by rfl) (by simp [ha, hp]) rfl

/-- Full-drive overtravel ends at an overcurrent (R48). -/
theorem overtravelCurrentStop_of_full (ha : active s = true) (hp : s.latch.phase = .overtravel)
    (hr : s.latch.resume = .drive) :
    exec .overtravelCurrentStop s = .next (conclude { s with latch := endPursuit s.latch }) :=
  exec_of_event (by rfl) (by simp [ha, hp, hr]) rfl

theorem latchPulseLimit_of_drive (ha : active s = true) (hp : s.latch.phase = .drive) :
    exec .latchPulseLimit s = .next (conclude (withTimeout (pulseLimit s.latch) s)) :=
  exec_of_event (by rfl) (by simp [ha, hp]) rfl

theorem pauseEnd_of_there {ok : Bool} {l : Latch} (hd : needDir l.target l.observed = none) :
    pauseEnd ok l = endPursuit l := by
  simp only [pauseEnd, hd]

theorem pauseEnd_of_away {ok : Bool} {l : Latch} {d : LatchDir} (hd : needDir l.target l.observed = some d) :
    pauseEnd ok l = entered ok d { l with attempt := 2, pulseElapsed := 0, openLoad := some 0 } := by
  simp only [pauseEnd, hd, enterDrive_eq]

theorem latchPauseEnd_of_pause (ha : active s = true) (hp : s.latch.phase = .pause) :
    exec .latchPauseEnd s =
      .next (conclude { s with latch := (pauseEnd (decide (70 ≤ s.supply.value)) s.latch) }) :=
  exec_of_event (by rfl) (by simp [ha, hp]) rfl

theorem latchSupplyWaitExpiry_of_waiting {w : Nat} (ha : active s = true) (hp : s.latch.phase = .idle)
    (hw : s.latch.supplyWait = some w) :
    exec .latchSupplyWaitExpiry s = .next (conclude { s with latch := failPursuit s.latch }) :=
  exec_of_event (by rfl) (by simp [ha, hp, hw]) rfl

/-! ## The chop (R55) -/

theorem regulationLimit_of_regulate (ha : active s = true) (hp : s.latch.phase = .regulate) :
    exec .regulationLimit s =
      .next (conclude (captureAwake .latchOvercurrent ((latchTargetCode s.latch.target).setWidth 8)
        ((latchPosCode s.latch.observed).setWidth 8) (match s.latch.regLimit with | .normal => 1 | .crash => 2)
        { s with latch :=
          { failPursuit s.latch with
            regElapsed := (match s.latch.regLimit with | .normal => 1200000 | .crash => 2000000) } })) := by
  refine exec_of_event (by rfl) (by simp [ha, hp]) ?_
  rw [capture_latch_of_active ha]
  cases s.latch.regLimit <;> rfl

theorem chopPeriodStart_of_chopped (ha : active s = true) (hc : latchChopped s.latch = true) :
    exec .chopPeriodStart s =
      .next (conclude { s with latch :=
        { s.latch with chopTimer := 0, chopBegun := true, chopOn := true, chopAbove := 0 } }) :=
  exec_of_event (by rfl) (by simp [ha, hc]) rfl

theorem regulateChopOff_of_chopped (ha : active s = true) (hc : latchChopped s.latch = true)
    (hb : s.latch.chopBegun = true) (ho : s.latch.chopOn = true) :
    exec .regulateChopOff s = .next (conclude { s with latch := { s.latch with chopOn := false } }) :=
  exec_of_event (by rfl) (by simp [ha, hc, hb, ho]) rfl

/-! ## Overcurrent, open load, and the crossings of a threshold (R54, R59, R110, R111) -/

/-- In REGULATE mode the drive goes on chopped, from the next 2 kHz period on (R54). -/
theorem latchOvercurrent_regulate (ha : active s = true) (hp : s.latch.phase = .drive)
    (hr : s.settings.options.regulate = true) :
    exec .latchOvercurrent s =
      .next (conclude { s with latch :=
        { s.latch with phase := .regulate, overTime := 0, chopBegun := false, chopOn := true, chopAbove := 0 } }) := by
  refine exec_of_event (by rfl) (by simp [ha, hp]) ?_
  simp [hr, beginChop, latchChopped, hp]

/-- In STOP mode the pursuit fails (R54). -/
theorem latchOvercurrent_stop (ha : active s = true) (hp : s.latch.phase = .drive)
    (hr : s.settings.options.regulate = false) :
    exec .latchOvercurrent s =
      .next (conclude (captureAwake .latchOvercurrent ((latchTargetCode s.latch.target).setWidth 8)
        ((latchPosCode s.latch.observed).setWidth 8) 0 { s with latch := failPursuit s.latch })) := by
  refine exec_of_event (by rfl) (by simp [ha, hp]) ?_
  rw [if_neg (by simp [hr]), capture_latch_of_active ha]
  rfl

theorem latchDirByte_eq (d : Option LatchDir) : latchDirByte d = if d = some .back then 1 else 0 := by
  rcases d with _ | _ | _ <;> rfl

theorem latchOpenLoad_of_checked (ha : active s = true) (ho : s.latch.openLoad ≠ none)
    (hp : s.latch.phase = .drive ∨ s.latch.phase = .regulate) :
    exec .latchOpenLoad s =
      .next (conclude (captureAwake .latchOpenLoad ((latchTargetCode s.latch.target).setWidth 8)
        (if s.latch.direction = some .back then 1 else 0) (BitVec.ofNat 8 s.latch.attempt)
        { s with latch := { s.latch with openLoad := none } })) := by
  refine exec_of_event (by rfl) (by simpa [ha, Option.isSome_iff_ne_none, ho] using hp) ?_
  rw [capture_latch_of_active ha, latchDirByte_eq]
  rfl

theorem latchCurrentChange_eq (band : CurrentBand) (l : Latch) :
    latchCurrentChange band l =
      { l with
        current := band
        overTime := if band = .high ∧ l.current = .high then l.overTime else 0
        chopAbove := if band = .high ∧ l.current = .high then l.chopAbove else 0
        openLoad :=
          if band ≠ .low ∧ (l.phase = .drive ∨ (l.phase = .regulate ∧ l.chopOn = true)) then none
          else l.openLoad } := by
  simp only [latchCurrentChange, ← openLoadChecked_iff]
  simp

theorem windowCurrentChange_eq (band : CurrentBand) (w : Window) :
    windowCurrentChange band w =
      { w with
        current := band
        overTime := if band = .high ∧ w.current = .high then w.overTime else 0
        run :=
          if band ≠ .low ∧ w.bridge = .drive then w.run.map fun r => { r with openLoad := none }
          else w.run } := by
  simp [windowCurrentChange]

theorem motorCurrentChange_latch (ha : active s = true) (band : CurrentBand) :
    exec (.motorCurrentChange .latch band) s =
      .next (conclude { s with latch := latchCurrentChange band s.latch }) :=
  exec_of_event (by rfl) ha rfl

theorem motorCurrentChange_window (ha : active s = true) (band : CurrentBand) (h4 : s.straps.position ≠ 4) :
    exec (.motorCurrentChange .window band) s =
      .next (conclude { s with window := windowCurrentChange band s.window }) :=
  exec_of_event (by rfl) ha (if_pos ((hasWindow_iff s).mpr ⟨operating_of_active ha, h4⟩))

theorem motorCurrentChange_tailgate (ha : active s = true) (band : CurrentBand) (h4 : s.straps.position = 4) :
    exec (.motorCurrentChange .window band) s = .next (conclude s) :=
  exec_of_event (by rfl) ha (if_neg fun h => ((hasWindow_iff s).mp h).2 h4)

end

end Sys2Proof.Machine

/-- Settles O42: a brake that no passed target entered ends with a pursuit (R51). -/
theorem brakeEndStartsPursuit : Obligations.BrakeEndStartsPursuit := fun _ => latchBrakeEnd_of_new

/-- Settles O41: the bridge, the expiries phase by phase, and the currents. -/
theorem latchTimerRows : Obligations.LatchTimerRows := by
  refine ⟨latchBridge_eq, fun s ha => ?_, fun s ha => ?_⟩
  · intro l ok ended failed timeout
    refine ⟨fun hp => ⟨overtravelEnd_of_overtravel ha hp, overtravelCurrentStop_of_full ha hp⟩, fun hp hb => ?_,
      latchBrakeEnd_of_new ha, fun hp hn => ?_, fun hp hn => ?_, fun hp hd => ?_, fun d hp hd => ?_,
      fun w hp hw => latchSupplyWaitExpiry_of_waiting ha hp hw, regulationLimit_of_regulate ha, fun hc => ?_⟩
    · rw [latchBrakeEnd_of_brake ha hp, brakeEnd_of_passed _ hb]
      intro pulse
      refine ⟨fun ho => ?_, fun ho hpulse hr hn => ?_, fun ho hpulse hr hn => ?_, fun r ho hpulse hd => ?_⟩
      · rw [if_pos ho]
        rfl
      · rw [if_neg ho, if_pos ⟨hpulse, hr⟩, pulseLimit_first (by exact hn)]
        rfl
      · rw [if_neg ho, if_pos ⟨hpulse, hr⟩, pulseLimit_second (by exact hn), withTimeout_true ha]
        rfl
      · have hgoes : ¬ (pulseAtBrakeEnd l = 300000 ∧ l.resume = .drive) := by
          rintro ⟨hlimit, hr⟩
          rcases hpulse with hpulse | hpulse
          · exact absurd hlimit (Nat.ne_of_lt hpulse)
          · simp [hr] at hpulse
        rw [if_neg ho, if_neg hgoes, hd]
        rfl
    · rw [latchPulseLimit_of_drive ha hp, pulseLimit_first hn]
      rfl
    · rw [latchPulseLimit_of_drive ha hp, pulseLimit_second hn, withTimeout_true ha]
      rfl
    · rw [latchPauseEnd_of_pause ha hp, pauseEnd_of_there hd]
      rfl
    · rw [latchPauseEnd_of_pause ha hp, pauseEnd_of_away hd]
    · have hc := (latchChopped_iff l).mpr hc
      exact ⟨chopPeriodStart_of_chopped ha hc, regulateChopOff_of_chopped ha hc⟩
  · refine ⟨latchOvercurrent_regulate ha, latchOvercurrent_stop ha, latchOpenLoad_of_checked ha, fun band => ?_,
      fun band h4 => ?_, motorCurrentChange_tailgate ha⟩
    · rw [motorCurrentChange_latch ha, latchCurrentChange_eq]
    · rw [motorCurrentChange_window ha band h4, windowCurrentChange_eq]

end

section
/-! SUPPORT. The latch laws (R58, R90, section 3.2) at the latch record: what every operation of latch drive makes of
the record and of its target. -/

open Sys2Proof Sys2Proof.Machine Sys2Proof.Safety Sys2Proof.Claims

namespace Sys2Proof.Machine

/-! ## The laws of a record and of its target -/

/-- What the latch laws ask of the record alone: a crash pursuit goes to UNLOCKED, a latch at rest at UNLOCKED has that
target, and overtravel is at the target. -/
structure RecordLaw (l : Latch) : Prop where
  pursuit : l.crashPursuit = true → l.target = .unlocked
  resting : l.phase = .idle → l.supplyWait = none → l.observed = .unlocked → l.target = .unlocked
  reached : l.phase = .overtravel → l.observed = targetPos l.target

/-- The targets that an open door and crash hold leave (R58, R90). -/
def Permitted (door hold : Bool) (t : LatchTarget) : Prop :=
  (door = true → t ≠ .deadlocked) ∧ (hold = true → t = .unlocked)

theorem latchLaw_iff (s : State) :
    LatchLaw s ↔ Permitted s.pins.doorOpen s.crash.hold s.latch.target ∧ RecordLaw s.latch :=
  ⟨fun ⟨hdoor, hhold, hpursuit, hresting, hreached⟩ => ⟨⟨hdoor, hhold⟩, hpursuit, hresting, hreached⟩,
    fun ⟨⟨hdoor, hhold⟩, hpursuit, hresting, hreached⟩ => ⟨hdoor, hhold, hpursuit, hresting, hreached⟩⟩

/-- UNLOCKED is always permitted. -/
theorem permitted_unlocked (door hold : Bool) : Permitted door hold .unlocked := ⟨fun _ => nofun, fun _ => rfl⟩

theorem targetPos_eq_unlocked {t : LatchTarget} (h : targetPos t = .unlocked) : t = .unlocked := by
  cases t
  · rfl
  all_goals cases h

variable {l : Latch}

/-- A record that neither rests nor overtravels has only its crash pursuit to answer for. -/
theorem RecordLaw.of_pursuit (hc : l.crashPursuit = true → l.target = .unlocked)
    (hi : l.phase = .idle → l.supplyWait ≠ none) (ho : l.phase ≠ .overtravel) : RecordLaw l :=
  ⟨hc, fun hp hw => absurd hw (hi hp), fun hp => absurd hp ho⟩

/-- A record with the fields of one that keeps the law. -/
theorem RecordLaw.of_same {l' : Latch} (h : RecordLaw l) (hc : l'.crashPursuit = l.crashPursuit)
    (ht : l'.target = l.target) (hp : l'.phase = l.phase) (hw : l'.supplyWait = none → l.supplyWait = none)
    (ho : l'.observed = l.observed) : RecordLaw l' := by
  refine ⟨?_, ?_, ?_⟩ <;> rw [ht]
  · rw [hc]; exact h.pursuit
  · rw [hp, ho]; exact fun hi hn => h.resting hi (hw hn)
  · rw [hp, ho]; exact h.reached

/-! ## The ends of a pursuit, and drives -/

/-- A pursuit that ends leaves the latch at rest: at UNLOCKED only with that target. -/
theorem endPursuit_recordLaw (h : l.observed = .unlocked → l.target = .unlocked) : RecordLaw (endPursuit l) :=
  ⟨nofun, fun _ _ => h, nofun⟩

/-- A pursuit that ends at its target. -/
theorem endPursuit_recordLaw_of_there (h : l.observed = targetPos l.target) : RecordLaw (endPursuit l) :=
  endPursuit_recordLaw fun ho => targetPos_eq_unlocked (h.symm.trans ho)

theorem failPursuit_recordLaw (l : Latch) : RecordLaw (failPursuit l) := .of_pursuit nofun nofun nofun

@[simp] theorem enterDrive_target (ok : Bool) (d : LatchDir) (l : Latch) : (enterDrive ok d l).target = l.target := by
  cases ok <;> rfl

/-- A drive drives, or is held back with the supply wait running (R47, R50). -/
theorem enterDrive_recordLaw (ok : Bool) (d : LatchDir) (h : l.crashPursuit = true → l.target = .unlocked) :
    RecordLaw (enterDrive ok d l) := by
  cases ok
  · exact .of_pursuit h (fun _ => nofun) nofun
  · cases hr : l.resume <;> exact .of_pursuit h (by simp [enterDrive, freshFilters, DrivePhase.phase, hr])
      (by simp [enterDrive, freshFilters, DrivePhase.phase, hr])

theorem startPursuit_recordLaw (ok : Bool) (t : LatchTarget) (crash : Bool) (l : Latch)
    (h : crash = true → t = .unlocked) : RecordLaw (startPursuit ok t crash l) := by
  unfold startPursuit
  dsimp only
  split
  · exact endPursuit_recordLaw_of_there ((needDir_eq_none_iff t l.observed).mp ‹_›).symm
  · exact enterDrive_recordLaw ok _ h

/-! ## Writes (R46, R56) -/

theorem brakeForNew_recordLaw (h : l.crashPursuit = true → l.target = .unlocked) : RecordLaw (brakeForNew l) :=
  .of_pursuit h nofun nofun

/-- What a taken write can do (R46): nothing at its own target, a new pursuit, the end of one, a brake, or the new
target in the phase that goes on. -/
theorem latchWrite_cases (ok : Bool) (t : LatchTarget) (l : Latch) :
    (t = l.target ∧ latchWrite ok t l = l) ∨ latchWrite ok t l = startPursuit ok t false l ∨
    (targetPos t = l.observed ∧ latchWrite ok t l = endPursuit (ordinaryTarget t l)) ∨
    latchWrite ok t l = brakeForNew (ordinaryTarget t l) ∨
    ∃ p b, latchWrite ok t l = { ordinaryTarget t l with phase := p, brakeForPassed := b } ∧
      (p = .idle → l.supplyWait ≠ none) ∧ (p = .overtravel → targetPos t = l.observed) := by
  cases hp : l.phase with
  | idle =>
    cases hw : l.supplyWait with
    | none =>
      rw [latchWrite_of_rest ok t hp hw, ← startPursuit_eq]
      split
      · exact .inr (.inl rfl)
      · exact .inl ⟨by tauto, rfl⟩
    | some w =>
      rw [latchWrite_of_waiting ok t hp hw, ← startPursuit_eq]
      split_ifs with ht ho hpos
      · exact .inl ⟨ht, rfl⟩
      · exact .inr (.inl rfl)
      · exact .inr (.inr (.inl ⟨hpos, rfl⟩))
      · exact .inr (.inr (.inr (.inr ⟨l.phase, _, rfl, fun _ => nofun, by simp [hp]⟩)))
  | drive | regulate =>
    rw [latchWrite_of_driving ok t (by simp [hp])]
    split_ifs with ht ho
    · exact .inl ⟨ht, rfl⟩
    · exact .inr (.inr (.inr (.inl rfl)))
    · exact .inr (.inr (.inr (.inr ⟨l.phase, _, rfl, by simp [hp], by simp [hp]⟩)))
  | overtravel =>
    rw [latchWrite_of_overtravel ok t hp]
    split_ifs with ht ho hpos
    · exact .inl ⟨ht, rfl⟩
    · exact .inr (.inr (.inr (.inl rfl)))
    · exact .inr (.inr (.inr (.inr ⟨l.phase, _, rfl, by simp [hp], fun _ => hpos⟩)))
    · refine .inr (.inr (.inr (.inr ⟨l.resume.phase, _, rfl, ?_, ?_⟩))) <;> cases l.resume <;> exact nofun
  | brake =>
    rw [latchWrite_of_brake ok t hp]
    split_ifs with ht
    · exact .inl ⟨ht, rfl⟩
    · exact .inr (.inr (.inr (.inr ⟨l.phase, _, rfl, by simp [hp], by simp [hp]⟩)))
  | pause =>
    rw [latchWrite_of_pause ok t hp, ← startPursuit_eq]
    split_ifs with ht
    · exact .inl ⟨ht, rfl⟩
    · exact .inr (.inl rfl)
  | failed => exact .inr (.inl ((latchWrite_of_failed ok t hp).trans (startPursuit_eq ..).symm))

/-- A taken write leaves the target written. -/
theorem latchWrite_target (ok : Bool) (t : LatchTarget) (l : Latch) : (latchWrite ok t l).target = t := by
  rcases latchWrite_cases ok t l with ⟨ht, hl⟩ | hl | ⟨-, hl⟩ | hl | ⟨p, b, hl, -, -⟩ <;> rw [hl]
  · exact ht.symm
  · exact startPursuit_target ok t false l
  all_goals rfl

theorem latchWrite_recordLaw (ok : Bool) (t : LatchTarget) (h : RecordLaw l) : RecordLaw (latchWrite ok t l) := by
  rcases latchWrite_cases ok t l with ⟨ht, hl⟩ | hl | ⟨hpos, hl⟩ | hl | ⟨p, b, hl, hi, ho⟩ <;> rw [hl]
  · exact h
  · exact startPursuit_recordLaw ok t false l nofun
  · exact endPursuit_recordLaw_of_there hpos.symm
  · exact brakeForNew_recordLaw nofun
  · exact ⟨nofun, fun hp hw => absurd hw (hi hp), fun hp => (ho hp).symm⟩

/-- A write as R45 takes it keeps the target permitted. -/
theorem latchWriteGated_permitted {door hold : Bool} (ok : Bool) (t : LatchTarget)
    (h : Permitted door hold l.target) : Permitted door hold (latchWriteGated hold door ok t l).target := by
  unfold latchWriteGated
  split_ifs with hgate
  · exact h
  · rw [latchWrite_target]
    refine ⟨fun hd ht => hgate ?_, fun hh => by_contra fun ht => hgate ?_⟩
    · simp [hd, ht]
    · simp [hh, ht]

theorem latchWriteGated_recordLaw (hold door ok : Bool) (t : LatchTarget) (h : RecordLaw l) :
    RecordLaw (latchWriteGated hold door ok t l) := by
  unfold latchWriteGated
  split_ifs
  · exact h
  · exact latchWrite_recordLaw ok t h

/-- The chop leaves the decided values of the record. -/
theorem beginChop_frame (l : Latch) :
    (beginChop l).target = l.target ∧ (beginChop l).phase = l.phase ∧ (beginChop l).observed = l.observed ∧
      (beginChop l).crashPursuit = l.crashPursuit := by
  unfold beginChop
  split <;> exact ⟨rfl, rfl, rfl, rfl⟩

/-- After a crash unlock write the target is UNLOCKED: where it changes nothing, it was (R56, section 3.2). -/
theorem crashUnlock_target (ok : Bool) (h : RecordLaw l) : (crashUnlock ok l).target = .unlocked := by
  cases hc : l.crashPursuit with
  | true =>
    rw [crashUnlock_of_crashPursuit ok hc]
    exact h.pursuit hc
  | false =>
    cases hp : l.phase with
    | idle =>
      rw [crashUnlock_of_idle ok hc hp, ← startPursuit_eq]
      split_ifs with hr
      · exact h.resting hp hr.1 hr.2
      · exact startPursuit_target ..
    | pause | failed =>
      rw [crashUnlock_of_standing ok hc (by simp [hp]), ← startPursuit_eq]
      exact startPursuit_target ..
    | drive | regulate =>
      rw [crashUnlock_of_driving ok hc (by simp [hp])]
      split_ifs <;> rfl
    | overtravel =>
      rw [crashUnlock_of_overtravel ok hc hp]
      split_ifs with hd ht
      · exact (beginChop_frame l).1.trans ht
      all_goals rfl
    | brake => rw [crashUnlock_of_brake ok hc hp]

theorem regulateInPlace_recordLaw (l : Latch) : RecordLaw (regulateInPlace l) :=
  .of_pursuit (fun _ => rfl) nofun nofun

theorem crashUnlock_recordLaw (ok : Bool) (h : RecordLaw l) : RecordLaw (crashUnlock ok l) := by
  cases hc : l.crashPursuit with
  | true => exact (crashUnlock_of_crashPursuit ok hc).symm ▸ h
  | false =>
    cases hp : l.phase with
    | idle =>
      rw [crashUnlock_of_idle ok hc hp, ← startPursuit_eq]
      split_ifs
      · exact h
      · exact startPursuit_recordLaw ok _ _ l fun _ => rfl
    | pause | failed =>
      rw [crashUnlock_of_standing ok hc (by simp [hp]), ← startPursuit_eq]
      exact startPursuit_recordLaw ok _ _ l fun _ => rfl
    | drive | regulate =>
      rw [crashUnlock_of_driving ok hc (by simp [hp])]
      split_ifs
      · exact regulateInPlace_recordLaw l
      · exact brakeForNew_recordLaw fun _ => rfl
    | overtravel =>
      rw [crashUnlock_of_overtravel ok hc hp]
      split_ifs with hd ht
      · obtain ⟨htarget, hphase, hobserved, -⟩ := beginChop_frame l
        exact ⟨fun _ => htarget.trans ht, fun hi => by simp [hphase, hp] at hi,
          fun _ => hobserved.trans ((h.reached hp).trans (congrArg targetPos htarget.symm))⟩
      · exact regulateInPlace_recordLaw l
      · exact brakeForNew_recordLaw fun _ => rfl
    | brake =>
      rw [crashUnlock_of_brake ok hc hp]
      exact .of_pursuit (fun _ => rfl) (by simp [hp]) (by simp [hp])

/-! ## A new observed position (R48, R49, R50, R52, R57) -/

theorem externalMove_permitted {door hold : Bool} (ok : Bool) (h : Permitted door hold l.target) :
    Permitted door hold (externalMove hold door ok l).target := by
  have hpursuit : ∀ c, Permitted door hold (startPursuit ok .unlocked c l).target := fun c => by
    rw [startPursuit_target]
    exact permitted_unlocked door hold
  unfold externalMove
  split
  · exact h
  · exact permitted_unlocked door hold
  · split
    · exact hpursuit true
    · exact ⟨fun _ => nofun, fun hh => absurd hh ‹_›⟩
  · split
    · exact hpursuit true
    · split
      · exact hpursuit false
      · exact ⟨fun hd => absurd hd ‹_›, fun hh => absurd hh ‹_›⟩

/-- An external move finds the latch off: in IDLE, or in FAILED. -/
theorem externalMove_recordLaw (hold door ok : Bool) (hp : l.phase = .idle ∨ l.phase = .failed)
    (hc : l.crashPursuit = true → l.target = .unlocked) : RecordLaw (externalMove hold door ok l) := by
  unfold externalMove
  split
  · exact ⟨hc, fun _ _ ho => by simp_all, fun ho => by simp_all⟩
  · exact ⟨nofun, fun _ _ _ => rfl, nofun⟩
  · split
    · exact startPursuit_recordLaw ok _ _ l fun _ => rfl
    · exact ⟨nofun, fun _ _ ho => by simp_all, nofun⟩
  · split
    · exact startPursuit_recordLaw ok _ _ l fun _ => rfl
    · split
      · exact startPursuit_recordLaw ok _ _ l nofun
      · exact ⟨nofun, fun _ _ ho => by simp_all, nofun⟩

/-- A new observed position is taken as an external move, or leaves the target. -/
theorem latchObserve_permitted {door hold : Bool} (ok : Bool) (o : LatchPos) (h : Permitted door hold l.target) :
    Permitted door hold (latchObserve hold door ok o l).target := by
  by_cases ho : o = l.observed
  · rwa [latchObserve_of_same hold door ok o ho]
  have hmove : Permitted door hold (externalMove hold door ok { l with observed := o }).target :=
    externalMove_permitted ok h
  cases hp : l.phase with
  | drive | regulate =>
    rw [latchObserve_of_driving hold door ok ho (by simp [hp])]
    split_ifs <;> exact h
  | overtravel =>
    rw [latchObserve_of_overtravel hold door ok ho hp]
    split_ifs
    · exact h
    · exact externalMove_permitted ok h
  | idle =>
    cases hw : l.supplyWait with
    | none => rwa [latchObserve_of_standing hold door ok ho (.inl ⟨hp, hw⟩)]
    | some w =>
      rw [latchObserve_of_waiting hold door ok ho hp hw]
      split_ifs <;> exact h
  | failed => rwa [latchObserve_of_standing hold door ok ho (.inr hp)]
  | pause =>
    rw [latchObserve_of_pause hold door ok ho hp]
    split_ifs <;> exact h
  | brake => rwa [latchObserve_of_brake hold door ok ho hp]

theorem latchObserve_recordLaw (hold door ok : Bool) (o : LatchPos) (h : RecordLaw l) :
    RecordLaw (latchObserve hold door ok o l) := by
  by_cases ho : o = l.observed
  · rwa [latchObserve_of_same hold door ok o ho]
  cases hp : l.phase with
  | drive | regulate =>
    rw [latchObserve_of_driving hold door ok ho (by simp [hp])]
    split_ifs with hpos
    · exact ⟨h.pursuit, nofun, fun _ => hpos⟩
    · exact .of_pursuit h.pursuit nofun nofun
    · exact .of_pursuit h.pursuit (by simp [hp]) (by simp [hp])
  | overtravel =>
    rw [latchObserve_of_overtravel hold door ok ho hp]
    split_ifs with hpos
    · exact ⟨h.pursuit, by simp [hp], fun _ => hpos⟩
    · exact externalMove_recordLaw hold door ok (.inl rfl) nofun
  | idle =>
    cases hw : l.supplyWait with
    | none =>
      rw [latchObserve_of_standing hold door ok ho (.inl ⟨hp, hw⟩)]
      exact externalMove_recordLaw hold door ok (.inl hp) h.pursuit
    | some w =>
      rw [latchObserve_of_waiting hold door ok ho hp hw]
      split_ifs with hpos
      · exact endPursuit_recordLaw_of_there hpos
      · exact .of_pursuit h.pursuit (fun _ => by simp [hw]) (by simp [hp])
  | failed =>
    rw [latchObserve_of_standing hold door ok ho (.inr hp)]
    exact externalMove_recordLaw hold door ok (.inr hp) h.pursuit
  | pause =>
    rw [latchObserve_of_pause hold door ok ho hp]
    split_ifs with hpos
    · exact endPursuit_recordLaw_of_there hpos
    · exact .of_pursuit h.pursuit (by simp [hp]) (by simp [hp])
  | brake =>
    rw [latchObserve_of_brake hold door ok ho hp]
    exact .of_pursuit h.pursuit (by simp [hp]) (by simp [hp])

/-! ## Expiries and kept supply values (R49 to R53) -/

@[simp] theorem pulseLimit_target (l : Latch) : (pulseLimit l).1.target = l.target := by
  unfold pulseLimit
  split <;> rfl

theorem pulseLimit_recordLaw (h : l.crashPursuit = true → l.target = .unlocked) : RecordLaw (pulseLimit l).1 := by
  unfold pulseLimit
  split
  · exact .of_pursuit h nofun nofun
  · exact failPursuit_recordLaw _

@[simp] theorem brakeEnd_target (ok : Bool) (l : Latch) : (brakeEnd ok l).1.target = l.target := by
  cases hb : l.brakeForPassed with
  | true =>
    rw [brakeEnd_of_passed ok hb, ← enterDrive_eq]
    split_ifs
    · rfl
    · exact pulseLimit_target _
    · exact enterDrive_target ..
  | false =>
    rw [brakeEnd_of_new ok hb, ← startPursuit_eq]
    exact startPursuit_target ..

theorem brakeEnd_recordLaw (ok : Bool) (h : l.crashPursuit = true → l.target = .unlocked) :
    RecordLaw (brakeEnd ok l).1 := by
  cases hb : l.brakeForPassed with
  | true =>
    rw [brakeEnd_of_passed ok hb, ← enterDrive_eq]
    split_ifs with hpos
    · exact endPursuit_recordLaw_of_there hpos
    · exact pulseLimit_recordLaw h
    · exact enterDrive_recordLaw ok _ h
  | false =>
    rw [brakeEnd_of_new ok hb, ← startPursuit_eq]
    exact startPursuit_recordLaw ok _ _ l h

@[simp] theorem pauseEnd_target (ok : Bool) (l : Latch) : (pauseEnd ok l).target = l.target := by
  unfold pauseEnd
  split
  · rfl
  · exact enterDrive_target ..

theorem pauseEnd_recordLaw (ok : Bool) (h : l.crashPursuit = true → l.target = .unlocked) :
    RecordLaw (pauseEnd ok l) := by
  unfold pauseEnd
  split
  · exact endPursuit_recordLaw_of_there ((needDir_eq_none_iff _ _).mp ‹_›).symm
  · exact enterDrive_recordLaw ok _ h

@[simp] theorem latchSupply_target (ok : Bool) (l : Latch) : (latchSupply ok l).target = l.target := by
  unfold latchSupply
  repeat' split
  all_goals simp [endPursuit]

theorem latchSupply_recordLaw (ok : Bool) (h : RecordLaw l) : RecordLaw (latchSupply ok l) := by
  unfold latchSupply
  split
  · split
    · split
      · exact enterDrive_recordLaw true _ h.pursuit
      · exact endPursuit_recordLaw_of_there ((needDir_eq_none_iff _ _).mp ‹_›).symm
    · exact h
  · split
    · exact h
    · exact .of_pursuit h.pursuit (fun _ => nofun) nofun
  · split
    · exact h
    · exact .of_pursuit h.pursuit (fun _ => nofun) nofun
  · split
    · exact h
    · exact endPursuit_recordLaw_of_there (h.reached ‹_›)
  all_goals exact h

/-- Time that passes changes timers alone. -/
theorem latchAfter_recordLaw (n : Nat) (h : RecordLaw l) : RecordLaw (latchAfter n l) :=
  h.of_same rfl rfl rfl (by simp [latchAfter, up]) rfl

end Sys2Proof.Machine
end

section
/-! SUPPORT. What the latch laws see of a station: the latch record, the own door and crash hold. The operations that
leave all three alone, in the order of the model. -/

open Sys2Proof Sys2Proof.Machine Sys2Proof.Safety Sys2Proof.Claims

namespace Sys2Proof.Machine

/-- What the latch laws see of a station. -/
structure LatchView where
  latch : Latch
  door : Bool
  hold : Bool

def latchView (s : State) : LatchView := ⟨s.latch, s.pins.doorOpen, s.crash.hold⟩

variable (s : State)

/-! ## Updates of one block, placements, captures, and the end of an event -/

/-- The frame lemmas below go through this one, also where `rfl` would do: simp does not discharge a side condition
with a rewrite that holds by `rfl` of a plain definition. -/
theorem latchView_of_same {s t : State} (hl : t.latch = s.latch) (hd : t.pins.doorOpen = s.pins.doorOpen)
    (hh : t.crash.hold = s.crash.hold) : latchView t = latchView s := by
  simp only [latchView, hl, hd, hh]

@[simp] theorem onWindow_latchView (f : Window → Window) : latchView (onWindow f s) = latchView s :=
  latchView_of_same rfl rfl rfl
@[simp] theorem onPinch_latchView (f : Pinch → Pinch) : latchView (onPinch f s) = latchView s :=
  latchView_of_same rfl rfl rfl
@[simp] theorem onSearch_latchView (f : Search → Search) : latchView (onSearch f s) = latchView s :=
  latchView_of_same rfl rfl rfl
@[simp] theorem onLink_latchView (f : Link → Link) : latchView (onLink f s) = latchView s :=
  latchView_of_same rfl rfl rfl
@[simp] theorem onRf_latchView (f : Rf → Rf) : latchView (onRf f s) = latchView s := latchView_of_same rfl rfl rfl
@[simp] theorem onElectrode_latchView (i : Fin 3) (f : Electrode → Electrode) :
    latchView (onElectrode i f s) = latchView s := latchView_of_same rfl rfl rfl
@[simp] theorem onPeer_latchView (n : Fin 8) (f : Peer → Peer) : latchView (onPeer n f s) = latchView s :=
  latchView_of_same rfl rfl rfl
@[simp] theorem markRecord_latchView (r : RecordName) : latchView (markRecord r s) = latchView s :=
  latchView_of_same rfl rfl rfl
@[simp] theorem popRx_latchView : latchView (popRx s) = latchView s := latchView_of_same rfl rfl rfl
@[simp] theorem setRefresh_latchView (k : Fin 4) (t : Option Nat) : latchView (setRefresh k t s) = latchView s :=
  latchView_of_same rfl rfl rfl
@[simp] theorem stepSequence_latchView : latchView (stepSequence s) = latchView s := latchView_of_same rfl rfl rfl
@[simp] theorem refuse_latchView (c : RefusalCode) : latchView (refuse c s) = latchView s :=
  latchView_of_same rfl rfl rfl
@[simp] theorem stopRelock_latchView : latchView (stopRelock s) = latchView s := latchView_of_same rfl rfl rfl
@[simp] theorem endAfterRun_latchView : latchView (endAfterRun s) = latchView s := latchView_of_same rfl rfl rfl
@[simp] theorem pauseTouch_latchView : latchView (pauseTouch s) = latchView s := latchView_of_same rfl rfl rfl
@[simp] theorem setVerdict_latchView (v : Verdict) : latchView (setVerdict v s) = latchView s :=
  latchView_of_same rfl rfl rfl
@[simp] theorem withdrawSearch_latchView : latchView (withdrawSearch s) = latchView s := latchView_of_same rfl rfl rfl

@[simp] theorem onPresence_latchView (n : Fin 8) (f : Peer → Peer) : latchView (onPresence n f s) = latchView s := by
  simp only [latchView, onPresence_latch, onPresence_pins, onPresence_crash]

@[simp] theorem captureAwake_latchView (k : FaultKind) (a b c : Byte) :
    latchView (captureAwake k a b c s) = latchView s := by
  simp only [latchView, captureAwake_latch, captureAwake_pins, captureAwake_crash]

@[simp] theorem place_latchView (t : Telegram) : latchView (place t s).1 = latchView s := by
  simp only [latchView, place_latch, place_pins, place_crash]

@[simp] theorem placeState_latchView : latchView (placeState s) = latchView s := by
  simp only [latchView, placeState_latch, placeState_pins, placeState_crash]

@[simp] theorem conclude_latchView : latchView (conclude s) = latchView s := by
  rw [conclude_endedAs]
  rfl

@[simp] theorem wake_latchView : latchView (wake s) = latchView s := by
  unfold wake
  split
  · exact placeState_latchView (wakeBlocks s)
  · rfl

@[simp] theorem capture_latchView (k : FaultKind) (a b c : Byte) : latchView (capture k a b c s) = latchView s := by
  simp [capture]

/-! ## Lock logic and latch -/

@[simp] theorem debounced_latchView (i : SwitchInput) : latchView (debounced i s) = latchView s :=
  latchView_of_same rfl rfl rfl

@[simp] theorem releaseRequest_latchView : latchView (releaseRequest s) = latchView s := by
  simp only [releaseRequest]; repeat' split
  all_goals rfl

/-! ## Window drive -/

@[simp] theorem handAccumulators_latchView (atTop : Bool) :
    latchView (handAccumulators atTop s) = latchView s := by
  simp only [handAccumulators]; split_ifs <;> rfl

@[simp] theorem endMove_latchView (m : Manner) (a b : Bool) (r : StopReason) :
    latchView (endMove m a b r s) = latchView s := by
  unfold endMove; split <;> simp

@[simp] theorem thermalEnd_latchView : latchView (thermalEnd s) = latchView s := by
  simp only [thermalEnd]; split <;> simp

@[simp] theorem startRun_latchView (m : Move) : latchView (startRun m s) = latchView s := by
  simp only [startRun]; split <;> simp

@[simp] theorem takeMove_latchView (m : Move) : latchView (takeMove m s) = latchView s := by
  simp only [takeMove]; split <;> [simp; rfl; (split <;> rfl)]

@[simp] theorem takeCommand_latchView (c : Command) : latchView (takeCommand c s) = latchView s := by
  simp only [takeCommand]; split_ifs <;> simp

@[simp] theorem endIf_latchView (m : Manner) (f : Move → Bool) (b : Bool) :
    latchView (endIf m f b s) = latchView s := by
  unfold endIf; split <;> [(split <;> simp); rfl]

@[simp] theorem ownSwitchChange_latchView (c : SwitchCommand) : latchView (ownSwitchChange c s) = latchView s := by
  cases c <;> simp [ownSwitchChange, releaseSwitch]

@[simp] theorem packManual_latchView (d : Dir) : latchView (packManual d s) = latchView s := by
  simp only [packManual]; repeat' split
  all_goals simp

@[simp] theorem windowRequest_latchView (a : WindowAction) : latchView (windowRequest a s) = latchView s := by
  cases a <;> simp [windowRequest, packAuto, packStop]

@[simp] theorem setKnowledge_latchView (k : Knowledge) : latchView (setKnowledge k s) = latchView s := by
  simp only [setKnowledge]; split <;> rfl

@[simp] theorem bottomEnd_latchView : latchView (bottomEnd s) = latchView s := by
  simp only [bottomEnd]; split <;> simp

@[simp] theorem blocked_latchView : latchView (blocked s) = latchView s := by simp [blocked]

@[simp] theorem topEnd_latchView (t : Nat) : latchView (topEnd t s) = latchView s := by simp [topEnd]

@[simp] theorem reversalStep_latchView : latchView (reversalStep s) = latchView s := by
  simp only [reversalStep]; repeat' split
  all_goals simp

@[simp] theorem crankWindow_latchView : latchView (crankWindow s) = latchView s := by simp [crankWindow]

@[simp] theorem childOnWindow_latchView : latchView (childOnWindow s) = latchView s := by simp [childOnWindow]

@[simp] theorem startGlobal_latchView (d : Dir) : latchView (startGlobal d s) = latchView s := by
  simp only [startGlobal]; split_ifs <;> simp

@[simp] theorem renewGlobal_latchView (d : Dir) : latchView (renewGlobal d s) = latchView s := by
  simp only [renewGlobal]; split <;> simp

@[simp] theorem globalFrame_latchView (d : Dir) : latchView (globalFrame d s) = latchView s := by
  simp only [globalFrame]; split_ifs <;> simp

@[simp] theorem endGlobal_latchView (d : Dir) : latchView (endGlobal d s) = latchView s := by
  simp only [endGlobal]; split <;> simp

@[simp] theorem heatTick_latchView : latchView (heatTick s) = latchView s := by simp [heatTick]

@[simp] theorem coolTick_latchView : latchView (coolTick s) = latchView s := latchView_of_same rfl rfl rfl

@[simp] theorem coastOver_latchView : latchView (coastOver s) = latchView s := latchView_of_same rfl rfl rfl

@[simp] theorem leaseOver_latchView : latchView (leaseOver s) = latchView s := by simp [leaseOver]

@[simp] theorem spentHoldOver_latchView : latchView (spentHoldOver s) = latchView s := latchView_of_same rfl rfl rfl

@[simp] theorem globalSpentOver_latchView : latchView (globalSpentOver s) = latchView s :=
  latchView_of_same rfl rfl rfl

@[simp] theorem rampOver_latchView : latchView (rampOver s) = latchView s := latchView_of_same rfl rfl rfl

@[simp] theorem excursionOver_latchView : latchView (excursionOver s) = latchView s := by simp [excursionOver]

@[simp] theorem counterOver_latchView : latchView (counterOver s) = latchView s := latchView_of_same rfl rfl rfl

@[simp] theorem windowBrakeOver_latchView : latchView (windowBrakeOver s) = latchView s := by
  simp only [windowBrakeOver]; split <;> simp

/-! ## Child safety, crash response, search and touch -/

@[simp] theorem takeChildRequest_latchView (on : Bool) : latchView (takeChildRequest on s) = latchView s := by
  simp only [takeChildRequest]; split <;> rfl

@[simp] theorem setCrashNumber_latchView (n : Fin 8) (x : Byte) :
    latchView (setCrashNumber n x s) = latchView s := by
  simp only [setCrashNumber]; split <;> rfl

@[simp] theorem resumeTouch_latchView : latchView (resumeTouch s) = latchView s := latchView_of_same rfl rfl rfl

@[simp] theorem abandonSearch_latchView : latchView (abandonSearch s) = latchView s := latchView_of_same rfl rfl rfl

@[simp] theorem searchOutcome_latchView (t : Telegram) (sent : Bool) :
    latchView (searchOutcome t sent s) = latchView s := by
  simp only [searchOutcome]; split_ifs <;> rfl

@[simp] theorem stateAttemptEnded_latchView : latchView (stateAttemptEnded s) = latchView s := by
  simp only [stateAttemptEnded]; split <;> rfl

@[simp] theorem takeReadings_latchView (f : Fin 4) (n : Byte) (r : List Byte) :
    latchView (takeReadings f n r s) = latchView s := by
  simp only [takeReadings]; repeat' split
  all_goals rfl

@[simp] theorem startPeriod_latchView : latchView (startPeriod s) = latchView s := latchView_of_same rfl rfl rfl

@[simp] theorem chainMeasurement_latchView (i : Fin 3) : latchView (chainMeasurement i s) = latchView s :=
  latchView_of_same rfl rfl rfl

/-! ## Fobs, settings, roster and vehicle status -/

@[simp] theorem awaitWrite_latchView (k : Subtype) (r : RecordName) :
    latchView (awaitWrite k r s) = latchView s := latchView_of_same rfl rfl rfl

@[simp] theorem startWrite_latchView : latchView (startWrite s) = latchView s := by
  unfold startWrite; split <;> rfl

@[simp] theorem fobLockWindow_latchView : latchView (fobLockWindow s) = latchView s := by simp [fobLockWindow]

@[simp] theorem fobUnlockWindow_latchView :
    latchView (fobUnlockWindow s) = latchView s := by simp [fobUnlockWindow]

@[simp] theorem clearFilters_latchView (n : Fin 8) :
    latchView (clearFilters n s) = latchView s := by simp [clearFilters]

/-! ## Power control -/

@[simp] theorem stateOutcome_latchView (collided : Bool) : latchView (stateOutcome collided s) = latchView s := by
  simp only [stateOutcome]; split_ifs <;> rfl

@[simp] theorem trySettle_latchView : latchView (trySettle s) = latchView s := by
  simp only [trySettle]; split <;> rfl

@[simp] theorem powerReceived_latchView (t : Telegram) : latchView (powerReceived t s) = latchView s :=
  latchView_of_same rfl rfl rfl

/-! ## The end of an event, wakes and captures -/

@[simp] theorem inputChange_latchView (i : SwitchInput) : latchView (inputChange i s) = latchView s := by
  simp [inputChange]

/-! ## Operations that place a telegram or capture a fault -/

@[simp] theorem unexpectedEdge_latchView : latchView (unexpectedEdge s) = latchView s := by
  unfold unexpectedEdge
  split
  · rfl
  · dsimp only
    split <;> simp

@[simp] theorem declarePinch_latchView : latchView (declarePinch s) = latchView s := by
  unfold declarePinch
  split <;> simp

@[simp] theorem learnTop_latchView : latchView (learnTop s) = latchView s := by
  simp only [learnTop]; repeat' split
  all_goals simp

@[simp] theorem stalled_latchView : latchView (stalled s) = latchView s := by
  simp only [stalled]; repeat' split
  all_goals simp

@[simp] theorem drivenStep_latchView (r : Run) : latchView (drivenStep r s) = latchView s := by
  simp only [drivenStep]; repeat' split
  all_goals simp <;> rfl

@[simp] theorem hallEdge_latchView : latchView (hallEdge s) = latchView s := by
  simp only [hallEdge]; repeat' split
  all_goals simp

@[simp] theorem placeWindowreq_latchView (k : Fin 4) (a : WindowAction) :
    latchView (placeWindowreq k a s) = latchView s := by
  simp [placeWindowreq]

@[simp] theorem packChange_latchView (k : Fin 4) (b a : SwitchPos) :
    latchView (packChange k b a s) = latchView s := by
  simp only [packChange]; repeat' split
  all_goals simp

@[simp] theorem overcurrentStop_latchView :
    latchView (overcurrentStop s) = latchView s := by simp [overcurrentStop]

@[simp] theorem openLoadStop_latchView : latchView (openLoadStop s) = latchView s := by simp [openLoadStop]

@[simp] theorem expire_latchView (x : WindowTimer) : latchView (expire x s) = latchView s := by
  cases x <;> simp [expire]

@[simp] theorem endChildPulse_latchView : latchView (endChildPulse s) = latchView s := by
  unfold endChildPulse
  split
  · rfl
  · dsimp only
    split
    · rfl
    · exact capture_latchView s ..

@[simp] theorem childPress_latchView : latchView (childPress s) = latchView s := by
  simp only [childPress]; split <;> simp

@[simp] theorem placeSearch_latchView : latchView (placeSearch s) = latchView s := by
  simp only [placeSearch]
  split <;> split <;> simp

@[simp] theorem startSearch_latchView (z : Zone) (woke : Bool) :
    latchView (startSearch z woke s) = latchView s := by
  simp only [startSearch]; split <;> simp

@[simp] theorem touchSearch_latchView (z : Zone) (woke : Bool) :
    latchView (touchSearch z woke s) = latchView s := by
  unfold touchSearch
  split
  · exact startSearch_latchView s z woke
  all_goals split <;> rfl

@[simp] theorem waitOver_latchView : latchView (waitOver s) = latchView s := by
  simp only [waitOver]; repeat' split
  all_goals simp

@[simp] theorem slotOver_latchView (b : Bool) : latchView (slotOver b s) = latchView s := by
  simp only [slotOver]; repeat' split
  all_goals simp

@[simp] theorem touchEvent_latchView (z : Zone) (woke : Bool) : latchView (touchEvent z woke s) = latchView s := by
  simp only [touchEvent]; split_ifs <;> simp

@[simp] theorem afterKept_latchView (i : Fin 3) (e : Electrode) : latchView (afterKept i e s) = latchView s := by
  simp only [afterKept]; split_ifs <;> simp

@[simp] theorem measure_latchView (i : Fin 3) (c : Nat) : latchView (measure i c s) = latchView s := by
  simp only [measure]; repeat' split
  all_goals simp

@[simp] theorem measurementOver_latchView (c : Nat) : latchView (measurementOver c s) = latchView s := by
  unfold measurementOver
  split <;> simp

@[simp] theorem placeAnswer_latchView (k : Subtype) (r : Byte) : latchView (placeAnswer k r s) = latchView s := by
  simp [placeAnswer]

@[simp] theorem answerWrite_latchView (r : RecordName) (ok : Bool) :
    latchView (answerWrite r ok s) = latchView s := by
  simp only [answerWrite]; repeat' split
  all_goals simp <;> rfl

@[simp] theorem endWrite_latchView (ok : Bool) : latchView (endWrite ok s) = latchView s := by
  simp only [endWrite]; repeat' split
  all_goals simp <;> rfl

@[simp] theorem applyService_latchView (k : Subtype) (args : List Byte) :
    latchView (applyService k args s) = latchView s := by
  cases k
  case option => simp only [applyService, applyOption]; split <;> simp; rfl
  all_goals simp [applyService, applyEnrol, applyClearfault, applyForget]
  all_goals rfl

@[simp] theorem takeService_latchView (k : Subtype) (t : Byte) (args : List Byte) :
    latchView (takeService k t args s) = latchView s := by
  simp only [takeService]; split_ifs <;> simp

/-! ## The link's own rows -/

end Sys2Proof.Machine
end

section
/-! SUPPORT. The latch laws at a station (R58, R90): the operations that write the latch, the own door or crash hold,
and every command. -/

open Sys2Proof Sys2Proof.Machine Sys2Proof.Safety Sys2Proof.Claims

namespace Sys2Proof.Machine

/-- The latch laws as a property of what they see of a station. -/
def LatchView.Lawful (v : LatchView) : Prop := Permitted v.door v.hold v.latch.target ∧ RecordLaw v.latch

theorem latchLaw_iff_lawful (s : State) : LatchLaw s ↔ (latchView s).Lawful := latchLaw_iff s

variable {s : State}

/-- A latch whose target stays keeps the laws where its record does. -/
theorem lawful_of_latch {l : Latch} (h : (latchView s).Lawful) (ht : l.target = s.latch.target) (hl : RecordLaw l) :
    (latchView { s with latch := l }).Lawful :=
  ⟨(congrArg (Permitted s.pins.doorOpen s.crash.hold) ht).mpr h.1, hl⟩

/-! ## Lock logic (R61 to R80) -/

@[simp] theorem writeTarget_lawful (t : LatchTarget) (h : (latchView s).Lawful) :
    (latchView (writeTarget t s)).Lawful :=
  ⟨latchWriteGated_permitted _ t h.1, latchWriteGated_recordLaw _ _ _ t h.2⟩

@[simp] theorem takeLock_lawful (src : ActionSource) (c : LockCause) (n : Byte) (own : Bool)
    (h : (latchView s).Lawful) : (latchView (takeLock src c n own s)).Lawful := by
  unfold takeLock
  split
  · exact h
  · split
    · exact h
    · split
      · exact h
      · dsimp only
        split
        · exact h
        · exact writeTarget_lawful (s := { s with lock := _ }) .locked h

@[simp] theorem takeDeadlock_lawful (src : ActionSource) (c : LockCause) (n : Byte) (own : Bool)
    (h : (latchView s).Lawful) : (latchView (takeDeadlock src c n own s)).Lawful := by
  simp only [takeDeadlock]
  split_ifs
  · exact h
  · exact takeLock_lawful src c n own h
  · exact writeTarget_lawful (s := { s with lock := _ }) .deadlocked h

@[simp] theorem takeUnlock_lawful (src : ActionSource) (c : LockCause) (own : Bool) (h : (latchView s).Lawful) :
    (latchView (takeUnlock src c own s)).Lawful :=
  writeTarget_lawful (s := { s with lock := _ }) .unlocked h

@[simp] theorem takeRequest_lawful (a : CentralAction) (src : ActionSource) (c : LockCause) (n : Byte) (own : Bool)
    (h : (latchView s).Lawful) : (latchView (takeRequest a src c n own s)).Lawful := by
  cases a
  · exact takeLock_lawful src c n own h
  · simp only [takeRequest]
    split <;> simp [h]
  · exact takeUnlock_lawful src c own h

@[simp] theorem requestOutcome_lawful (q : Byte) (confirmed : Bool) (h : (latchView s).Lawful) :
    (latchView (requestOutcome q confirmed s)).Lawful := by
  unfold requestOutcome
  split
  · exact h
  · split
    · dsimp only
      split
      · exact takeRequest_lawful (s := s) _ _ _ _ true h
      · exact h
    · exact h

@[simp] theorem placeRequest_lawful (a : CentralAction) (c : LockCause) (n : Byte) (h : (latchView s).Lawful) :
    (latchView (placeRequest a c n s)).Lawful := by
  have hplaced : ∀ t, (latchView (place t (stepSequence s)).1).Lawful := fun t => by simpa using h
  simp only [placeRequest]
  split <;> exact takeRequest_lawful a _ c n false (hplaced _)

@[simp] theorem keyLock_lawful (h : (latchView s).Lawful) : (latchView (keyLock s)).Lawful := by
  unfold keyLock
  split <;> exact placeRequest_lawful (s := { s with lock := _ }) _ _ _ h

@[simp] theorem driveAwayTest_lawful (h : (latchView s).Lawful) : (latchView (driveAwayTest s)).Lawful := by
  unfold driveAwayTest
  split_ifs
  · exact takeLock_lawful (s := { s with lock := _ }) _ _ _ _ h
  · exact h

@[simp] theorem peerChange_lawful (n : Fin 8) (opened : Bool) (h : (latchView s).Lawful) :
    (latchView (peerChange n opened s)).Lawful := by
  simp only [peerChange]
  split <;> simp [h]

@[simp] theorem vehicleChangeLock_lawful (h : (latchView s).Lawful) : (latchView (vehicleChangeLock s)).Lawful := by
  simp only [vehicleChangeLock]
  split <;> simp [h]

@[simp] theorem followUpLock_lawful (h : (latchView s).Lawful) : (latchView (followUpLock s)).Lawful := by
  simp only [followUpLock]
  split_ifs
  · exact writeTarget_lawful (s := { s with lock := _ }) .locked h
  all_goals exact h

@[simp] theorem handlePull_lawful (h : (latchView s).Lawful) : (latchView (handlePull s)).Lawful := by
  unfold handlePull
  split <;> simp [h]

/-! ## The own door (R58, R72) -/

/-- Where the own door becomes reported open, a target or a position DEADLOCKED is unlocked, so that every target left
is permitted (R58). -/
theorem doorOpenLatch_lawful (hhold : s.crash.hold = true → s.latch.target = .unlocked) (h : RecordLaw s.latch) :
    (latchView (doorOpenLatch s)).Lawful := by
  rw [doorOpenLatch_eq]
  split_ifs with hdead
  · refine ⟨?_, latchWrite_recordLaw _ _ h⟩
    simp only [latchView, latchWrite_target]
    exact permitted_unlocked ..
  · exact ⟨⟨fun _ ht => hdead (.inl ht), hhold⟩, h⟩

@[simp] theorem doorChange_lawful (b : Bool) (h : (latchView s).Lawful) : (latchView (doorChange b s)).Lawful := by
  by_cases hb : b = s.pins.doorOpen
  · rwa [hb, doorChange_of_same]
  cases b with
  | true =>
    have hopen : (latchView (doorOpenLatch { s with pins := { s.pins with doorOpen := true } })).Lawful :=
      doorOpenLatch_lawful h.1.2 h.2
    rw [doorChange_of_opening (by simpa using hb)]
    dsimp only
    split <;> simpa using hopen
  | false =>
    have hclosed : (latchView { s with pins := { s.pins with doorOpen := false } }).Lawful := ⟨⟨nofun, h.1.2⟩, h.2⟩
    rw [doorChange_of_closing (by simpa using hb)]
    exact driveAwayTest_lawful (followUpLock_lawful hclosed)

/-! ## The roster, vehicle status and taken telegrams (R29 to R32, R37 to R42, R63, R83, R103) -/

@[simp] theorem evidence_lawful (n : Fin 8) (h : (latchView s).Lawful) : (latchView (evidence n s)).Lawful := by
  simp only [evidence]
  split <;> simp [h]

@[simp] theorem takeState_lawful (n : Fin 8) (c : StateContents) (h : (latchView s).Lawful) :
    (latchView (takeState n c s)).Lawful := by
  simp only [takeState]
  split_ifs <;> simp [h]

@[simp] theorem vehicleChange_lawful (old : Vehicle) (h : (latchView s).Lawful) :
    (latchView (vehicleChange old s)).Lawful := by
  simp only [vehicleChange]
  split_ifs <;> simp [h]

/-- The end of crash hold takes a condition away (R94). -/
@[simp] theorem endCrashHold_lawful (h : (latchView s).Lawful) : (latchView (endCrashHold s)).Lawful :=
  ⟨⟨h.1.1, nofun⟩, h.2⟩

@[simp] theorem takeVehicle_lawful (v : Byte) (i : Ignition) (h : (latchView s).Lawful) :
    (latchView (takeVehicle v i s)).Lawful := by
  simp only [takeVehicle]
  split
  · exact vehicleChange_lawful _ (endCrashHold_lawful (s := { s with vehicle := _ }) h)
  · exact vehicleChange_lawful (s := { s with vehicle := _ }) _ h

@[simp] theorem takeCentral_lawful (n : Fin 8) (a : CentralAction) (c : LockCause) (q x : Byte)
    (h : (latchView s).Lawful) : (latchView (takeCentral n a c q x s)).Lawful := by
  simp only [takeCentral, filterLockreq]
  split <;> simp [h]

@[simp] theorem takeChild_lawful (n : Fin 8) (on : Bool) (q : Byte) (h : (latchView s).Lawful) :
    (latchView (takeChild n on q s)).Lawful := by
  simp only [takeChild, filterLockreq]
  split <;> simp [h]

@[simp] theorem takeWindowreq_lawful (n : Fin 8) (set : Byte) (a : WindowAction) (q : Byte)
    (h : (latchView s).Lawful) : (latchView (takeWindowreq n set a q s)).Lawful := by
  simp only [takeWindowreq, filterWindowreq]
  split_ifs <;> simp [h]

/-! ## Fob reports (R70, R71, R79, R166 to R171) -/

@[simp] theorem fobLock_lawful (f : Fin 4) (c : BitVec 24) (h : (latchView s).Lawful) :
    (latchView (fobLock f c s)).Lawful := by
  simp only [fobLock]
  split <;> simp [h]

@[simp] theorem fobUnlock_lawful (f : Fin 4) (c : BitVec 24) (h : (latchView s).Lawful) :
    (latchView (fobUnlock f c s)).Lawful := by
  simp only [fobUnlock]
  split <;> simp [h]

@[simp] theorem dispatchReport_lawful (ownLine : Bool) (r : FobReport) (h : (latchView s).Lawful) :
    (latchView (dispatchReport ownLine r s)).Lawful := by
  unfold dispatchReport
  cases r.command <;> simp [h] <;> split_ifs <;> simp [h]

@[simp] theorem takeReport_lawful (ownLine : Bool) (r : FobReport) (h : (latchView s).Lawful) :
    (latchView (takeReport ownLine r s)).Lawful := by
  simp only [takeReport]
  split_ifs
  · exact dispatchReport_lawful ownLine r (s := markRecord _ { s with fobs := _ }) h
  all_goals exact h

@[simp] theorem frameComplete_lawful (p : List Byte) (h : (latchView s).Lawful) :
    (latchView (frameComplete p s)).Lawful := by
  simp only [frameComplete]
  split <;> simp [h]

@[simp] theorem assemble_lawful (v : Byte) (e : Bool) (h : (latchView s).Lawful) :
    (latchView (assemble v e s)).Lawful := by
  simp only [assemble]
  repeat' split
  all_goals simp [h]

@[simp] theorem rfByte_lawful (v : Byte) (e : Bool) (h : (latchView s).Lawful) : (latchView (rfByte v e s)).Lawful := by
  unfold rfByte
  split
  · split <;> simp [h]
  · exact assemble_lawful v e h
  · exact h

/-! ## Searches (R157, R162, R165) -/

@[simp] theorem decideSearch_lawful (z : Zone) (h : (latchView s).Lawful) : (latchView (decideSearch z s)).Lawful := by
  simp only [decideSearch]
  repeat' split
  all_goals simp [h]

@[simp] theorem endCollection_lawful (h : (latchView s).Lawful) : (latchView (endCollection s)).Lawful := by
  simp only [endCollection]
  split <;> simp [h]

@[simp] theorem joinSearch_lawful (keep : Bool) (x : Byte) (y : BitVec 6) (t : Nat) (h : (latchView s).Lawful) :
    (latchView (joinSearch keep x y t s)).Lawful := by
  simp only [joinSearch]
  repeat' split
  all_goals simp [h]

@[simp] theorem takeSearch_lawful (x : Byte) (y : BitVec 6) (t : Nat) (h : (latchView s).Lawful) :
    (latchView (takeSearch x y t s)).Lawful := by
  unfold takeSearch
  split <;> simp [h]

/-! ## Crash response (R90 to R92) -/

/-- A crash entry leaves the target UNLOCKED, so that crash hold may stand (R90). -/
@[simp] theorem crashEntry_lawful (h : (latchView s).Lawful) : (latchView (crashEntry s)).Lawful := by
  have hrecord : RecordLaw s.latch := h.2
  have htarget := crashUnlock_target (decide (70 ≤ s.supply.value)) hrecord
  rw [crashEntry_eq, endMove_latchView]
  exact ⟨⟨fun _ hd => absurd (htarget.symm.trans hd) nofun, fun _ => htarget⟩, crashUnlock_recordLaw _ hrecord⟩

@[simp] theorem ownCrash_lawful (h : (latchView s).Lawful) : (latchView (ownCrash s)).Lawful := by
  have hline : ∀ c : Crash, c.hold = s.crash.hold → (latchView { s with crash := c }).Lawful := fun c hc =>
    ⟨⟨h.1.1, fun hh => h.1.2 (hc.symm.trans hh)⟩, h.2⟩
  simp only [ownCrash, place_latchView]
  refine crashEntry_lawful (hline _ ?_)
  unfold takeQualified
  split <;> rfl

@[simp] theorem takeCrash_lawful (n : Fin 8) (x : Byte) (h : (latchView s).Lawful) :
    (latchView (takeCrash n x s)).Lawful := by
  simp only [takeCrash]
  split_ifs <;> simp [h]

/-! ## Latch drive's expiries, samples, and the outcomes of attempts -/

theorem withTimeout_latchView (r : Latch × Bool) (s : State) :
    latchView (withTimeout r s) = latchView { s with latch := r.1 } := by
  simp only [withTimeout]
  split <;> simp

@[simp] theorem takeSample_lawful (v : Nat) (h : (latchView s).Lawful) : (latchView (takeSample v s)).Lawful := by
  cases hd : s.supply.discard with
  | true => rwa [takeSample_of_discard v hd]
  | false =>
    rw [takeSample_of_kept v hd, keepSample]
    dsimp only
    split
    · exact lawful_of_latch h (latchSupply_target ..) (latchSupply_recordLaw _ h.2)
    · exact h

@[simp] theorem deliverOutcome_lawful (collided left : Bool) (t : Telegram) (h : (latchView s).Lawful) :
    (latchView (deliverOutcome collided left t s)).Lawful := by
  unfold deliverOutcome
  repeat' split
  all_goals simp [h]

@[simp] theorem dropEntry_lawful (e : TxEntry) (h : (latchView s).Lawful) : (latchView (dropEntry s e)).Lawful := by
  unfold dropEntry
  repeat' split
  all_goals simp [h]

@[simp] theorem endAttempt_lawful (slots : Byte) (c : Bool) (h : (latchView s).Lawful) :
    (latchView (endAttempt slots c s)).Lawful := by
  unfold endAttempt
  split
  · exact h
  · dsimp only
    refine deliverOutcome_lawful _ _ _ ?_
    rw [apply_ite latchView, captureAwake_latchView, ite_self]
    exact h

@[simp] theorem enterStuck_lawful (h : (latchView s).Lawful) : (latchView (enterStuck s)).Lawful := by
  have hfold : ∀ (es : List TxEntry) (u : State), (latchView u).Lawful → (latchView (es.foldl dropEntry u)).Lawful := by
    intro es
    induction es with
    | nil => exact fun _ hu => hu
    | cons e es ih => exact fun u hu => ih _ (dropEntry_lawful e hu)
  simp only [enterStuck, capture_latchView]
  exact hfold _ _ h

/-! ## The start of a station, and reset (R44, R177) -/

/-- A latch as booted is at rest at its position's own target (R44). -/
theorem bootLatch_recordLaw (o : LatchPos) : RecordLaw (bootLatch o) :=
  ⟨nofun, fun _ _ (ho : o = .unlocked) => by rw [ho]; rfl, nofun⟩

theorem bootDoor_lawful {o : LatchPos} (hh : s.crash.hold = false) (hl : s.latch = bootLatch o) :
    (latchView (bootDoor s)).Lawful := by
  have hrecord : RecordLaw s.latch := hl ▸ bootLatch_recordLaw o
  unfold bootDoor
  split_ifs with hdead hfault
  · refine ⟨permitted_unlocked .., ?_⟩
    rw [hl]
    exact ⟨fun _ => rfl, fun _ _ _ => rfl, nofun⟩
  · rw [writeTarget_unlocked]
    refine ⟨?_, latchWrite_recordLaw _ _ hrecord⟩
    simp only [latchView, latchWrite_target]
    exact permitted_unlocked ..
  · refine ⟨⟨fun hd ht => hdead ?_, fun hhold => absurd (hh.symm.trans hhold) nofun⟩, hrecord⟩
    have hd : s.pins.doorOpen = true := hd
    have ht : s.latch.target = .deadlocked := ht
    rw [hl] at ht
    cases o with
    | deadlocked => simp [hd, hl, bootLatch]
    | unlocked | locked | unknown => cases ht

/-- Every start, whatever was before it. -/
theorem start_lawful (i : PowerOnInputs) (s : State) : (latchView (start i s)).Lawful := by
  have hboot : (latchView (bootDoor (booted i s))).Lawful := bootDoor_lawful rfl rfl
  cases hv : strapsValid i.straps with
  | true => rwa [start_of_valid i s hv, placeState_latchView]
  | false => rwa [start_of_invalid i s hv]

theorem holdInReset_lawful (s : State) : (latchView (holdInReset s)).Lawful :=
  ⟨permitted_unlocked .., bootLatch_recordLaw .unlocked⟩

/-! ## The passing of time -/

/-- Time that passes changes timers alone: the target, the door and crash hold stay. -/
theorem elapse_lawful (n : Nat) (h : (latchView s).Lawful) : (latchView (elapse n s)).Lawful := by
  rw [elapse_eq]
  unfold afterTime
  split_ifs
  · exact h
  · exact h
  · exact h
  · exact ⟨h.1, latchAfter_recordLaw n h.2⟩

/-- The expiries within the time that a Hall step brings are events of window drive. -/
@[simp] theorem elapseTimers_lawful (k n : Nat) (h : (latchView s).Lawful) :
    (latchView (elapseTimers k n s)).Lawful := by
  induction k generalizing n s with
  | zero => exact elapse_lawful n h
  | succ k ih =>
    simp only [elapseTimers]
    repeat' split
    · exact ih _ (by simpa using elapse_lawful _ h)
    · exact elapse_lawful n h
    · exact elapse_lawful n h

/-! ## Every command -/

/-- The outcome of a command keeps the latch laws. -/
def KeepsLatchLaw (o : Host.Outcome State Fault Refusal) : Prop := ∀ t, o = .next t → (latchView t).Lawful

theorem goOn_keepsLatchLaw (h : (latchView s).Lawful) : KeepsLatchLaw (goOn s) := by
  rintro _ ⟨⟩
  exact h

/-- An event keeps the latch laws where its effect does under the condition of the event. -/
theorem event_keepsLatchLaw (c : Bool) (f : State → State) (h : (latchView s).Lawful)
    (hf : c = true → (latchView (f s)).Lawful) : KeepsLatchLaw (event c f s) := by
  cases c
  · exact goOn_keepsLatchLaw h
  · exact goOn_keepsLatchLaw (by simpa using hf rfl)

/-- A taking keeps the latch laws where its block's part does. -/
theorem taking_keepsLatchLaw (row : Instr) (f : Message → Nat → State → State) (h : (latchView s).Lawful)
    (hf : ∀ m n u, (latchView u).Lawful → (latchView (f m n u)).Lawful) : KeepsLatchLaw (taking row f s) := by
  unfold taking
  split
  · exact event_keepsLatchLaw _ _ h fun _ => hf _ _ _ (by simpa using h)
  · exact goOn_keepsLatchLaw h

/-- The owners of telegrams keep the latch laws. -/
theorem owners_lawful (m : Message) (n : Nat) (u : State) (h : (latchView u).Lawful) :
    ∀ f ∈ [onCentral, onChild, onWindowreq, onService, onFobreport, onEvidence, onState, onVehicle,
      onPinchTelegram, onSearchTelegram, onCrash], (latchView (f m n u)).Lawful := by
  cases m <;>
    simp [onCentral, onChild, onWindowreq, onService, onFobreport, onEvidence, onState, onVehicle,
      onPinchTelegram, peerPinch, onSearchTelegram, onCrash, h]

/-- Every row under which a telegram is taken keeps the latch laws. -/
theorem takenRow_keepsLatchLaw (row : Instr) (f : Message → Nat → State → State) (h : (latchView s).Lawful)
    (hf : f ∈ [onCentral, onChild, onWindowreq, onService, onFobreport, onEvidence, onState, onVehicle,
      onPinchTelegram, onSearchTelegram, onCrash]) : KeepsLatchLaw (taking row f s) :=
  taking_keepsLatchLaw row f h fun m n u hu => owners_lawful m n u hu f hf

/-- A row of an input acts on the station that the input change leaves, awake (R180). -/
theorem input_keepsLatchLaw (c : Bool) (f : State → State) (i : SwitchInput) (h : (latchView s).Lawful)
    (hf : (latchView (inputChange i s)).Lawful → (latchView (f s)).Lawful) : KeepsLatchLaw (event c f s) :=
  event_keepsLatchLaw c f h fun _ => hf (by simpa using h)

/-! ## Latch drive's own rows -/

/-- A new observed position (R43, R57). -/
theorem latchObserve_lawful (a b : Bool) (h : (latchView s).Lawful) :
    (latchView { s with latch :=
      (latchObserve s.crash.hold s.pins.doorOpen (latchSupplyOk s) (positionOf a b) s.latch) }).Lawful :=
  ⟨latchObserve_permitted _ _ h.1, latchObserve_recordLaw _ _ _ _ h.2⟩

/-- The end of overtravel: the latch is at its target (R48). -/
theorem endPursuit_lawful_of_overtravel (h : (latchView s).Lawful) (hp : s.latch.phase = .overtravel) :
    (latchView { s with latch := endPursuit s.latch }).Lawful :=
  lawful_of_latch h rfl (endPursuit_recordLaw_of_there (h.2.reached hp))

/-- An overcurrent in DRIVE goes on chopped, or fails the pursuit (R54). -/
theorem latchOvercurrent_lawful (h : (latchView s).Lawful) :
    (latchView
      (if s.settings.options.regulate = true then { s with latch := { beginChop s.latch with phase := .regulate } }
      else
        capture .latchOvercurrent (targetByte s.latch.target) (observedByte s.latch.observed) 0
          { s with latch := failPursuit s.latch })).Lawful := by
  split
  · obtain ⟨htarget, -, -, hcrash⟩ := beginChop_frame s.latch
    exact lawful_of_latch h htarget
      (.of_pursuit (fun hc => htarget.trans (h.2.pursuit (hcrash.symm.trans hc))) nofun nofun)
  · rw [capture_latchView]
    exact lawful_of_latch h rfl (failPursuit_recordLaw _)

/-- Every command keeps the latch laws. -/
theorem exec_keepsLatchLaw (c : Instr) (h : (latchView s).Lawful) : KeepsLatchLaw (exec c s) := by
  cases c <;> dsimp only [exec]
  case powerOn i => exact goOn_keepsLatchLaw (by simpa using start_lawful i s)
  case supplyComparatorChange b => exact goOn_keepsLatchLaw h
  case brownOut => exact event_keepsLatchLaw _ _ h fun _ => holdInReset_lawful s
  case dispatchDiscard => exact taking_keepsLatchLaw _ _ h fun _ _ _ hu => hu
  case stateTaken | vehicleTaken | faultTaken | serviceackTaken | lockreqLock | lockreqDeadlock
      | lockreqUnlock | lockreqChildOn | lockreqChildOff | windowreqManualUp | windowreqManualDown
      | windowreqAutoUp | windowreqAutoDown | windowreqStop | pinchTaken | searchTaken | crashTaken
      | serviceEnrol | serviceOption | serviceClearfault | serviceForgetWindow | fobLock | fobUnlock
      | fobTailgate | fobCloseAll | fobOpenAll | fobSearchReply =>
    exact takenRow_keepsLatchLaw _ _ h (by simp)
  case latchSwitchChange a b =>
    exact event_keepsLatchLaw _ _ h fun _ => latchObserve_lawful a b (by simpa using h)
  case overtravelEnd | overtravelCurrentStop =>
    exact event_keepsLatchLaw _ _ h fun hc => endPursuit_lawful_of_overtravel h (by simp_all)
  case latchBrakeEnd =>
    exact event_keepsLatchLaw _ _ h fun _ => by
      rw [withTimeout_latchView]
      exact lawful_of_latch h (brakeEnd_target ..) (brakeEnd_recordLaw _ h.2.pursuit)
  case latchPulseLimit =>
    exact event_keepsLatchLaw _ _ h fun _ => by
      rw [withTimeout_latchView]
      exact lawful_of_latch h (pulseLimit_target _) (pulseLimit_recordLaw h.2.pursuit)
  case latchPauseEnd =>
    exact event_keepsLatchLaw _ _ h fun _ => lawful_of_latch h (pauseEnd_target ..) (pauseEnd_recordLaw _ h.2.pursuit)
  case latchSupplyWaitExpiry =>
    exact event_keepsLatchLaw _ _ h fun _ => lawful_of_latch h rfl (failPursuit_recordLaw _)
  case latchOvercurrent => exact event_keepsLatchLaw _ _ h fun _ => latchOvercurrent_lawful h
  case regulationLimit =>
    exact event_keepsLatchLaw _ _ h fun _ => by
      rw [capture_latchView]
      exact lawful_of_latch h rfl (failPursuit_recordLaw _)
  case latchOpenLoad =>
    exact event_keepsLatchLaw _ _ h fun _ => by
      rw [capture_latchView]
      exact lawful_of_latch h rfl (h.2.of_same rfl rfl rfl id rfl)
  case regulateChopOff | chopPeriodStart =>
    exact event_keepsLatchLaw _ _ h fun _ => lawful_of_latch h rfl (h.2.of_same rfl rfl rfl id rfl)
  case motorCurrentChange motor band =>
    refine event_keepsLatchLaw _ _ h fun _ => ?_
    cases motor
    · exact lawful_of_latch h rfl (h.2.of_same rfl rfl rfl id rfl)
    · dsimp only
      split <;> exact h
  case insideHandlePull pulled =>
    refine input_keepsLatchLaw _ _ .insideHandle h fun hi => ?_
    dsimp only
    split
    · exact handlePull_lawful (s := { inputChange .insideHandle s with pins := _ }) hi
    · exact hi
  case centralLockButton closed | centralUnlockButton closed =>
    refine input_keepsLatchLaw _ _ .packContact h fun hi => ?_
    dsimp only
    split
    · exact placeRequest_lawful (s := { inputChange .packContact s with pins := _ }) _ _ _ hi
    · exact hi
  case keyLockTurn closed =>
    refine input_keepsLatchLaw _ _ .packContact h fun hi => ?_
    dsimp only
    split
    · exact keyLock_lawful (s := { inputChange .packContact s with pins := _ }) hi
    · exact hi
  case keyUnlockTurn closed =>
    refine input_keepsLatchLaw _ _ .packContact h fun hi => ?_
    dsimp only
    split
    · exact placeRequest_lawful (s := { inputChange .packContact s with pins := _, lock := _ }) _ _ _ hi
    · exact hi
  case childSwitchChange closed =>
    refine input_keepsLatchLaw _ _ .childSwitch h fun hi => ?_
    dsimp only
    split
    · rw [childOnWindow_latchView]
      exact hi
    · exact hi
  case childButtonPress closed =>
    refine input_keepsLatchLaw _ _ .packContact h fun hi => ?_
    dsimp only
    split
    · rw [childPress_latchView]
      exact hi
    · exact hi
  case windowSwitchChange pos =>
    refine input_keepsLatchLaw _ _ .ownWindowSwitch h fun hi => ?_
    dsimp only
    split
    · exact hi
    · rw [ownSwitchChange_latchView]
      exact hi
  case packWindowSwitchChange k pos =>
    refine input_keepsLatchLaw _ _ .packContact h fun hi => ?_
    rw [packChange_latchView]
    exact hi
  case crashLineActive | switchInputWake =>
    have hw : (latchView (wake s)).Lawful := by simpa using h
    exact event_keepsLatchLaw _ _ h fun _ => hw
  case attemptStart n =>
    refine event_keepsLatchLaw _ _ h fun _ => ?_
    dsimp only
    split <;> simpa using h
  case attemptEnd slots =>
    exact event_keepsLatchLaw _ _ h fun _ => endAttempt_lawful _ _ (by split <;> simpa using h)
  case vehicleHoldExpiry =>
    exact event_keepsLatchLaw _ _ h fun _ => vehicleChange_lawful (s := { s with vehicle := _ }) _ h
  case packRefreshExpiry k =>
    refine event_keepsLatchLaw _ _ h fun _ => ?_
    split <;> simpa using h
  case quietTimerExpiry =>
    exact event_keepsLatchLaw _ _ h fun _ => by
      rw [trySettle_latchView]
      exact h
  case deadlockWindowExpiry | secondTurnExpiry | releasePulseEnd | crashLineInactive | settleExpiry =>
    exact event_keepsLatchLaw _ _ h fun _ => h
  all_goals exact event_keepsLatchLaw _ _ h fun _ => by simp [h]

/-- A step on an empty queue keeps the latch laws. -/
theorem idleStep_lawful (h : (latchView s).Lawful) : (latchView (idleStep s)).Lawful := by
  unfold idleStep
  split
  · exact h
  · split
    · exact h
    · exact elapse_lawful Config.tick h

end Sys2Proof.Machine

/-- Settles O7: what the latch laws see of a station keeps them through every command, and through an idle step. -/
theorem latchLawKept : Obligations.LatchLawKept := by
  intro s t h hs
  rw [latchLaw_iff_lawful] at h ⊢
  unfold step at hs
  split at hs
  · rename_i c rest _
    exact exec_keepsLatchLaw (s := { s with pending := rest }) c h t hs
  · cases hs
    exact idleStep_lawful h

end

section
/-! SUPPORT. Central actions at lock logic, test by test (R61, R66, R68, R69), and the tests over the other stations of
the expected set (R68, R75). -/

open Sys2Proof Sys2Proof.Machine Sys2Proof.Safety Sys2Proof.Claims

namespace Sys2Proof.Machine

/-! ## The other stations of the expected set (R68, R75) -/

/-- Membership of the expected set's other stations, with a test of the record held of each. -/
theorem anyPeer_iff (f : Peer → Bool) (s : State) :
    anyPeer f s = true ↔
      ∃ k : Fin 8, k.val < 5 ∧ expectedStation s.straps.body k.val = true ∧ k ≠ s.straps.position ∧
        f s.roster.peers[k] = true := by
  simp only [anyPeer, List.any_eq_true, List.mem_finRange, true_and, Bool.and_eq_true, bne_iff_ne, and_assoc]
  constructor
  · rintro ⟨k, hk⟩
    exact ⟨⟨k.val, by omega⟩, k.isLt, hk⟩
  · rintro ⟨k, hlt, hk⟩
    exact ⟨⟨k.val, hlt⟩, hk⟩

/-- What makes the door of a peer open or not known to be closed (R68). -/
theorem peerForbidsDeadlock_iff (p : Peer) :
    peerForbidsDeadlock p = true ↔
      p.presence = .lost ∨ p.presence = .neverHeard ∨ (p.presence = .present ∧ p.lastState = none) ∨
        ((p.presence = .present ∨ p.presence = .asleep) ∧ ∃ c, p.lastState = some c ∧ c.doorOpen = true) := by
  cases hp : p.presence <;> cases hc : p.lastState <;> simp [peerForbidsDeadlock, hp, hc]

/-- What makes the door of a peer known to be closed (R75). -/
theorem peerDoorClosed_iff (p : Peer) :
    peerDoorClosed p = true ↔ p.presence ≠ .neverHeard ∧ ∃ c, p.lastState = some c ∧ c.doorOpen = false := by
  cases hc : p.lastState <;> simp [peerDoorClosed, hc]

/-! ## A LOCK (R66) -/

theorem opensWindow_iff (c : LockCause) :
    opensWindow c = true ↔ c = .fobButton ∨ c = .keyCylinder ∨ c = .keyless := by
  cases c <;> simp [opensWindow]

theorem keyInside_iff (number : Byte) (s : State) :
    keyInside number s = true ↔
      s.search.number = number ∧ ∃ f : Fin 4, s.search.verdicts[f] = some .inside := by
  simp only [keyInside, Bool.and_eq_true, beq_iff_eq, List.any_eq_true, List.mem_iff_getElem, Fin.exists_iff]
  simp [Vector.getElem_toArray]

section
variable {src : ActionSource} {cause : LockCause} {number : Byte} {own : Bool} {s : State}

/-- The first test of a LOCK (R66): crash hold. -/
theorem takeLock_of_hold (h : s.crash.hold = true) :
    takeLock src cause number own s = refuse .crashHold s := if_pos h

/-- The second test of a LOCK (R66): a key inside. -/
theorem takeLock_of_keyInside (h : s.crash.hold = false) (hc : cause = .keyless)
    (hk : keyInside number s = true) : takeLock src cause number own s = refuse .keyInside s := by
  simp [takeLock, h, hc, hk]

/-- The third test of a LOCK (R66): the own door. -/
theorem takeLock_of_doorOpen (h : s.crash.hold = false) (hk : ¬ (cause = .keyless ∧ keyInside number s = true))
    (hd : s.pins.doorOpen = true) :
    takeLock src cause number own s =
      { s with lock := { applyIntent .lock src own s.lock with followUp := true } } := by
  simp [takeLock, h, hd, hk]

/-- The intent record after a LOCK with the own door closed (R66). -/
def lockIntent (src : ActionSource) (cause : LockCause) (own : Bool) (k : LockLogic) : LockLogic :=
  { applyIntent .lock src own k with
    followUp := false
    deadlockWindow :=
      if cause = .fobButton ∨ cause = .keyCylinder ∨ cause = .keyless then some 3000000 else none }

/-- The last case of a LOCK (R66): the door is closed, and LOCKED is written unless the latch is deadlocked. -/
theorem takeLock_of_doorClosed (h : s.crash.hold = false)
    (hk : ¬ (cause = .keyless ∧ keyInside number s = true)) (hd : s.pins.doorOpen = false) :
    takeLock src cause number own s =
      if s.latch.target = .deadlocked ∨ s.latch.observed = .deadlocked then
        { s with lock := lockIntent src cause own s.lock }
      else
        { s with
          lock := lockIntent src cause own s.lock
          latch := latchWrite (decide (70 ≤ s.supply.value)) .locked s.latch } := by
  have hw := writeTarget_locked_of_no_hold (s := { s with lock := lockIntent src cause own s.lock }) h
  rw [← hw]
  simp [takeLock, h, hd, hk, lockIntent, opensWindow_iff, tDeadlockWindow]

/-! ## A DEADLOCK and an UNLOCK (R68, R69) -/

theorem takeDeadlock_of_hold (h : s.crash.hold = true) :
    takeDeadlock src cause number own s = refuse .crashHold s := if_pos h

/-- An open door, or one not known to be closed, makes a DEADLOCK a LOCK (R68). -/
theorem takeDeadlock_of_open (h : s.crash.hold = false)
    (ho : s.pins.doorOpen = true ∨ anyPeer peerForbidsDeadlock s = true) :
    takeDeadlock src cause number own s = takeLock src cause number own s := by
  rw [takeDeadlock, if_neg (by simp [h]), if_pos (by rwa [Bool.or_eq_true])]

/-- A write of DEADLOCKED is taken outside crash hold with the own door closed (R45). -/
theorem writeTarget_deadlocked_of_closed (h : s.crash.hold = false) (hd : s.pins.doorOpen = false) :
    writeTarget .deadlocked s =
      { s with latch := latchWrite (decide (70 ≤ s.supply.value)) .deadlocked s.latch } := by
  rw [writeTarget, latchWriteGated_taken _ _ (.inl h) (.inl hd), latchSupplyOk]

/-- With every door known to be closed, DEADLOCKED is written (R68). -/
theorem takeDeadlock_of_closed (h : s.crash.hold = false)
    (ho : ¬ (s.pins.doorOpen = true ∨ anyPeer peerForbidsDeadlock s = true)) :
    takeDeadlock src cause number own s =
      { s with
        lock := { applyIntent .deadlock src own s.lock with followUp := false }
        latch := latchWrite (decide (70 ≤ s.supply.value)) .deadlocked s.latch } := by
  have hd : s.pins.doorOpen = false := by simpa using fun hd => ho (.inl hd)
  rw [takeDeadlock, if_neg (by simp [h]), if_neg (by rwa [Bool.or_eq_true])]
  exact writeTarget_deadlocked_of_closed (s := { s with lock := _ }) h hd

end

/-- The relock timer that an UNLOCK starts (R69). -/
theorem relock_of_unlock (cause : LockCause) (s : State) :
    (if (cause == .fobButton || cause == .keyless) && !s.pins.doorOpen then relockTime s else none) =
      if (cause = .fobButton ∨ cause = .keyless) ∧ s.pins.doorOpen = false ∧ s.settings.options.relock ≠ 0 then
        some (s.settings.options.relock * 1000000)
      else none := by
  by_cases hr : s.settings.options.relock = 0 <;> simp [relockTime, hr]

end Sys2Proof.Machine

/-- Settles O43: the tests of a LOCK in their order, and those of a DEADLOCK. -/
theorem centralLockAndDeadlock : Obligations.CentralLockAndDeadlock := by
  refine ⟨?_, ?_⟩
  · intro src cause number own s inside applied window u
    have hinside : inside ↔ cause = .keyless ∧ keyInside number s = true := by rw [keyInside_iff]
    rw [hinside]
    refine ⟨takeLock_of_hold, fun h ⟨hc, hk⟩ => takeLock_of_keyInside h hc hk,
      takeLock_of_doorOpen, fun h hk hd hl => ?_, fun h hk hd ht ho => ?_⟩
    · exact (takeLock_of_doorClosed h hk hd).trans (if_pos hl)
    · exact (takeLock_of_doorClosed h hk hd).trans (if_neg (not_or.mpr ⟨ht, ho⟩))
  · intro src cause number own s doubtful asLock u
    have hasLock : asLock ↔ s.pins.doorOpen = true ∨ anyPeer peerForbidsDeadlock s = true := by
      simp only [anyPeer_iff, peerForbidsDeadlock_iff]
      exact Iff.rfl
    rw [hasLock]
    exact ⟨takeDeadlock_of_hold, takeDeadlock_of_open, takeDeadlock_of_closed⟩

/-- Settles O44: an UNLOCK is applied, UNLOCKED is written, and the relock timer is that of R69. -/
theorem centralUnlock : Obligations.CentralUnlock := by
  intro src cause own s
  rw [takeUnlock, writeTarget_unlocked, relock_of_unlock]
  rfl

end

section
/-! SUPPORT. The station's own LOCKREQ with the contacts of the driver pack and the key cylinder (R62, R64, R77, R78),
the timers of lock logic (R67, R73, R78, R80), the drive-away test (R75) and the tailgate release (R80). -/

open Sys2Proof Sys2Proof.Machine Sys2Proof.Safety Sys2Proof.Claims

namespace Sys2Proof.Machine

variable {s : State}

/-! ## The contacts of the driver pack and the key cylinder (R77, R78) -/

/-- A row of the driver pack at an acting driver station. -/
theorem exec_of_driverRow {i : Instr} {f : State → State} {u : State} (ha : active s = true)
    (hd : isDriverStation s = true) (he : exec i s = event (operating s && isDriverStation s) f s) (hu : f s = u) :
    exec i s = .next (conclude u) :=
  exec_of_event he (by simp [operating_of_active ha, hd]) hu

section
variable (b : Bool) (ha : active s = true) (hd : isDriverStation s = true) (hw : s.pins.wakeDebounce = none)
include ha hd hw

/-- The press of the central lock button counts where the door is closed (R77). -/
theorem centralLockButton_of_active :
    exec (.centralLockButton b) s = .next (conclude
      (if b = true ∧ s.pins.centralLock = false ∧ s.pins.doorOpen = false then
        placeRequest .lock .insideButton 0 { s with pins := { s.pins with centralLock := b } }
      else { s with pins := { s.pins with centralLock := b } })) :=
  exec_of_driverRow ha hd (by rfl)
    (by simp only [inputChange_of_active _ ha hw, Bool.and_eq_true, Bool.not_eq_true', and_assoc])

theorem centralUnlockButton_of_active :
    exec (.centralUnlockButton b) s = .next (conclude
      (if b = true ∧ s.pins.centralUnlock = false then
        placeRequest .unlock .insideButton 0 { s with pins := { s.pins with centralUnlock := b } }
      else { s with pins := { s.pins with centralUnlock := b } })) :=
  exec_of_driverRow ha hd (by rfl)
    (by simp only [inputChange_of_active _ ha hw, Bool.and_eq_true, Bool.not_eq_true'])

theorem keyLockTurn_of_active :
    exec (.keyLockTurn b) s = .next (conclude
      (if b = true ∧ s.pins.keyLock = false then keyLock { s with pins := { s.pins with keyLock := b } }
      else { s with pins := { s.pins with keyLock := b } })) :=
  exec_of_driverRow ha hd (by rfl)
    (by simp only [inputChange_of_active _ ha hw, Bool.and_eq_true, Bool.not_eq_true'])

theorem keyUnlockTurn_of_active :
    exec (.keyUnlockTurn b) s = .next (conclude
      (if b = true ∧ s.pins.keyUnlock = false then
        placeRequest .unlock .keyCylinder 0
          { s with
            pins := { s.pins with keyUnlock := b }
            lock := { s.lock with secondTurn := none } }
      else { s with pins := { s.pins with keyUnlock := b } })) :=
  exec_of_driverRow ha hd (by rfl)
    (by simp only [inputChange_of_active _ ha hw, Bool.and_eq_true, Bool.not_eq_true'])

end

/-- The first lock turn starts the second-turn timer and asks for a LOCK (R78). -/
theorem keyLock_of_first (h : s.lock.secondTurn = none) :
    keyLock s = placeRequest .lock .keyCylinder 0 { s with lock := { s.lock with secondTurn := some 3000000 } } := by
  simp [keyLock, h, tSecondTurn]

/-- A lock turn within the second-turn time asks for a DEADLOCK (R78). -/
theorem keyLock_of_second (h : s.lock.secondTurn ≠ none) :
    keyLock s = placeRequest .deadlock .keyCylinder 0 { s with lock := { s.lock with secondTurn := none } } := by
  obtain ⟨t, ht⟩ := Option.ne_none_iff_exists'.mp h
  simp [keyLock, ht]

/-! ## The timers, the drive-away test and the tailgate release (R67, R73, R75, R78, R80) -/

/-- The expiry of a timer that runs, at an acting station. -/
theorem exec_of_timer {i : Instr} {timer : Option Nat} {f : State → State} {u : State} (ha : active s = true)
    (he : exec i s = event (active s && timer.isSome) f s) (hu : f s = u) (h : timer ≠ none) :
    exec i s = .next (conclude u) :=
  exec_of_event he (by simp [ha, Option.isSome_iff_ne_none, h]) hu

/-- The four conditions of the drive-away lock (R75). -/
theorem driveAwayTest_eq (s : State) :
    driveAwayTest s =
      if s.lock.driveAwayArmed = true ∧ (∃ v, s.vehicle.speed = some v ∧ 15 ≤ v) ∧ s.pins.doorOpen = false ∧
          anyPeer (fun p => !peerDoorClosed p) s = false then
        takeLock .driveAway .driveAway 0 false { s with lock := { s.lock with driveAwayArmed := false } }
      else s := by
  cases hv : s.vehicle.speed <;> simp [driveAwayTest, hv, and_assoc]

/-- Every other door of the expected set is known to be closed (R75). -/
theorem everyDoorClosed_iff (s : State) :
    anyPeer (fun p => !peerDoorClosed p) s = false ↔
      ∀ k : Fin 8, k.val < 5 → expectedStation s.straps.body k.val = true → k ≠ s.straps.position →
        peerDoorClosed s.roster.peers[k] = true := by
  rw [← Bool.not_eq_true, anyPeer_iff]
  simp

/-- A release request starts the pulse where none runs and the speed permits it (R80). -/
theorem releaseRequest_eq (s : State) :
    releaseRequest s =
      if s.release.pulse = none ∧ ((∃ v, s.vehicle.speed = some v ∧ v < 3) ∨
          (s.vehicle.speed = none ∧ s.vehicle.ignition = .off)) then
        { s with release := { pulse := some 0 } }
      else s := by
  cases hp : s.release.pulse <;> cases hv : s.vehicle.speed <;> simp [releaseRequest, hp, hv]

end Sys2Proof.Machine

/-- Settles O45: a press is a change to closed, and places the request of its button. -/
theorem centralButtons : Obligations.CentralButtons := by
  intro s ha hd hw locks unlocks
  refine ⟨fun hl ho => ?_, fun hl ho => ?_, fun hl => ?_, ?_, fun hu => ?_, fun hu => ?_, ?_⟩
  · rw [centralLockButton_of_active _ ha hd hw, if_pos ⟨rfl, hl, ho⟩]
  · rw [centralLockButton_of_active _ ha hd hw, if_neg (by simp [ho])]
  · rw [centralLockButton_of_active _ ha hd hw, if_neg (by simp [hl]), ← hl]
  · rw [centralLockButton_of_active _ ha hd hw, if_neg (by simp)]
  · rw [centralUnlockButton_of_active _ ha hd hw, if_pos ⟨rfl, hu⟩]
  · rw [centralUnlockButton_of_active _ ha hd hw, if_neg (by simp [hu]), ← hu]
  · rw [centralUnlockButton_of_active _ ha hd hw, if_neg (by simp)]

/-- Settles O46: the turns of the key, and an own LOCKREQ by what the link answers. -/
theorem ownRequests : Obligations.OwnRequests := by
  refine ⟨?_, ?_⟩
  · intro s ha hd hw turnedLock turnedUnlock
    refine ⟨fun hk ht => ?_, fun hk ht => ?_, fun hk => ?_, fun hk => ?_, fun hk => ?_, ?_, ?_⟩
    · rw [keyLockTurn_of_active _ ha hd hw, if_pos ⟨rfl, hk⟩, keyLock_of_first (s := turnedLock) ht]
    · rw [keyLockTurn_of_active _ ha hd hw, if_pos ⟨rfl, hk⟩, keyLock_of_second (s := turnedLock) ht]
    · rw [keyLockTurn_of_active _ ha hd hw, if_neg (by simp [hk]), ← hk]
    · rw [keyUnlockTurn_of_active _ ha hd hw, if_pos ⟨rfl, hk⟩]
    · rw [keyUnlockTurn_of_active _ ha hd hw, if_neg (by simp [hk]), ← hk]
    · rw [keyLockTurn_of_active _ ha hd hw, if_neg (by simp)]
    · rw [keyUnlockTurn_of_active _ ha hd hw, if_neg (by simp)]
  · intro a c number s q payload r s1
    have hs1 : s1 = takeRequest a (.node s.straps.position q) c number false r.1 := request_eq ..
    have hplace : placeRequest a c number s =
        if r.2 = .taken then
          { s1 with lock :=
            { s1.lock with
              inFlight := some { action := a, cause := c, sequence := q, search := number, overtaken := false } } }
        else { s1 with lock := { s1.lock with refusal := .notSent, inFlight := none } } := by
      rw [hs1]
      rfl
    exact ⟨fun h => hplace.trans (if_pos h), fun h => hplace.trans (if_neg h)⟩

/-- Settles O48: each timer's row, the drive-away test by its conditions, and the release by the speed. -/
theorem lockTimerRows : Obligations.LockTimerRows := by
  intro s ha
  refine ⟨exec_of_timer ha (by rfl) rfl, exec_of_timer ha (by rfl) rfl, exec_of_timer ha (by rfl) rfl,
    exec_of_timer ha (by rfl) rfl, ?_, ?_, by simp [releaseOutput]⟩
  · intro known fires
    have htest := driveAwayTest_eq s
    simp only [everyDoorClosed_iff, peerDoorClosed_iff] at htest
    exact ⟨fun h => htest.trans (if_pos h), fun h => htest.trans (if_neg h)⟩
  · intro permitted
    refine ⟨fun hp hperm => ?_, fun h => ?_⟩
    · have hstart := (releaseRequest_eq s).trans (if_pos ⟨hp, hperm⟩)
      exact ⟨hstart, by rw [hstart]; rfl⟩
    · refine (releaseRequest_eq s).trans (if_neg ?_)
      rintro ⟨hp, hperm⟩
      exact h.elim (· hp) (· hperm)

end

section
/-! SUPPORT. What an accepted fob report reaches (R70, R71, R79, R80, R132, R137, R163, R171). -/

open Sys2Proof Sys2Proof.Machine Sys2Proof.Safety Sys2Proof.Claims

namespace Sys2Proof.Machine

/-- A standalone station takes a fob command from its own RF line only (R79). -/
theorem reachesLock_iff (own : Bool) (s : State) :
    reachesLock own s = true ↔ own = true ∨ (s.link.state ≠ .isolated ∧ s.link.state ≠ .stuck) := by
  simp [reachesLock, standalone]

/-- What keeps a fob UNLOCK from passing the driver station's record (R71). -/
theorem driverUnlocked_eq_false_iff (p : Peer) :
    driverUnlocked p = false ↔
      (p.presence = .present ∧ ∃ c, p.lastState = some c ∧ c.target ≠ .unlocked) ∨
        (p.presence = .asleep ∧ ∀ c, p.lastState = some c → c.target ≠ .unlocked) := by
  cases hp : p.presence <;> cases hc : p.lastState <;> simp [driverUnlocked, hp, hc]

theorem heldBack_iff (s : State) :
    heldBack s = true ↔
      s.settings.options.selective = true ∧ s.straps.position ≠ driverNumber s.straps ∧
        driverUnlocked s.roster.peers[driverNumber s.straps] = false := by
  have hd : isDriverStation s = false ↔ s.straps.position ≠ driverNumber s.straps := by
    rw [← Bool.not_eq_true, isDriverStation_iff]
  simp [heldBack, hd, peer, and_assoc]

/-- A GLOBAL move in this direction ends with a brake-stop (R137). -/
theorem endGlobal_of_global {d : Dir} {s : State} (hw : hasWindow s = true) (hg : globalMove d s.window = true) :
    endGlobal d s = endMove .brakeStop false false .none s := by
  simp [endGlobal, hw, hg]

theorem endGlobal_of_none {d : Dir} {s : State} (h : hasWindow s = false ∨ globalMove d s.window = false) :
    endGlobal d s = s := by
  rcases h with h | h <;> simp [endGlobal, h]

/-- A search reply counts while its own search is in flight or collecting (R163). -/
theorem takeReadings_eq (f : Fin 4) (number : Byte) (readings : List Byte) (s : State) :
    takeReadings f number readings s =
      if (s.search.phase = .inFlight ∨ s.search.phase = .collecting) ∧ number = s.search.number then
        { s with search :=
          { s.search with
            verdicts := s.search.verdicts.set f.val (some (verdictOfReadings s readings)) f.isLt } }
      else s := by
  cases hp : s.search.phase <;> simp [takeReadings, hp, onSearch]

section
variable {own : Bool} {r : FobReport} {s : State}

/-- A fob LOCK at lock logic by the deadlock window (R70), and at window drive (R137). -/
theorem dispatchReport_lock (h : r.command = .lock) :
    dispatchReport own r s = endGlobal .down
      (if reachesLock own s = true then
        if s.lock.deadlockWindow ≠ none then takeDeadlock (.fob r.fob r.counter) .fobButton 0 false s
        else takeLock (.fob r.fob r.counter) .fobButton 0 false s
      else s) := by
  simp only [dispatchReport, h, fobLockWindow, fobLock, Option.isSome_iff_ne_none]

/-- A fob UNLOCK at lock logic by the selective rule (R71), and at window drive (R137). -/
theorem dispatchReport_unlock (h : r.command = .unlock) :
    dispatchReport own r s = endGlobal .up
      (if reachesLock own s = true ∧ heldBack s = false then
        takeUnlock (.fob r.fob r.counter) .fobButton false s
      else s) := by
  cases hr : reachesLock own s <;> cases hb : heldBack s <;>
    simp [dispatchReport, h, fobUnlockWindow, fobUnlock, hr, hb]

/-- A fob TAILGATE is a release request at the tailgate (R80). -/
theorem dispatchReport_tailgate (h : r.command = .tailgate) :
    dispatchReport own r s = if s.straps.position = 4 then releaseRequest s else s := by
  simp only [dispatchReport, h, isTailgate_iff]

theorem dispatchReport_searchReply (h : r.command = .searchReply) :
    dispatchReport own r s = takeReadings r.fob r.search r.readings s := by
  simp only [dispatchReport, h]

end

end Sys2Proof.Machine

/-- Settles O34: each command's share, the selective rule by the driver station's record, and the moves it ends. -/
theorem reportDispatch : Obligations.ReportDispatch := by
  refine ⟨fun own r s => ?_, fun s => ?_, fun d s => ⟨fun m hw hm hk hd => ?_, fun h => ?_⟩⟩
  · intro heard
    have hheard : heard ↔ reachesLock own s = true := (reachesLock_iff own s).symm
    rw [hheard]
    refine ⟨fun hc => ?_, fun hc => ?_, fun hc => ?_, fun hc => ?_, fun hc => ?_, fun hc => ?_⟩
    · rw [dispatchReport_lock hc]
      exact ⟨fun hr hn => by rw [if_pos hr, if_neg (not_not.mpr hn)], fun hr hn => by rw [if_pos hr, if_pos hn],
        fun hr => by rw [if_neg hr]⟩
    · rw [dispatchReport_unlock hc]
      refine ⟨fun hr hb => by rw [if_pos ⟨hr, hb⟩], fun h => ?_⟩
      rw [if_neg]
      rintro ⟨hr, hb⟩
      exact h.elim (· hr) (by simp [hb])
    · rw [dispatchReport_tailgate hc]
      exact ⟨fun hp => if_pos hp, fun hp => if_neg hp⟩
    · rw [dispatchReport, hc]
    · rw [dispatchReport, hc]
    · rw [dispatchReport_searchReply hc, takeReadings_eq]
      refine ⟨fun hp hn => if_pos ⟨hp, hn⟩, fun h => if_neg ?_⟩
      rintro ⟨hp, hn⟩
      rcases h with h | h | h
      · simp [h] at hp
      · simp [h] at hp
      · exact h hn
  · intro driver p
    rw [heldBack_iff, driverUnlocked_eq_false_iff]
    rfl
  · exact endGlobal_of_global hw ((globalMove_iff d s.window).mpr ⟨m, hm, hk, hd⟩)
  · refine endGlobal_of_none (h.imp_right fun hno => ?_)
    rw [← Bool.not_eq_true, globalMove_iff]
    rintro ⟨m, hm, hg⟩
    exact hno m hm hg

end

section
/-! SUPPORT. The own window switch and the switches of the driver pack (R88, R101, R102). -/

open Sys2Proof Sys2Proof.Machine Sys2Proof.Safety Sys2Proof.Claims

namespace Sys2Proof.Machine

variable {s : State}

/-! ## Endings with a condition -/

/-- A running move that meets the condition ends. -/
theorem endIf_of_move {manner : Manner} {f : Move → Bool} {spent : Bool} {m : Move} (hm : s.window.move = some m)
    (hf : f m = true) : endIf manner f spent s = endMove manner false spent .none s := by
  simp [endIf, hm, hf]

/-- A move that does not meet the condition goes on. -/
theorem endIf_of_other {manner : Manner} {f : Move → Bool} {spent : Bool}
    (hno : ∀ m, s.window.move = some m → ¬ f m = true) : endIf manner f spent s = s := by
  unfold endIf
  split
  · exact if_neg (hno _ ‹_›)
  · rfl

/-! ## The command that a change of a switch forms (R101) -/

/-- The switch at its first stage in a direction, and at its second. -/
def firstStage (d : Dir) : SwitchPos := match d with | .up => .up1 | .down => .down1
def secondStage (d : Dir) : SwitchPos := match d with | .up => .up2 | .down => .down2

theorem switchCommand_second {before : SwitchPos} (d : Dir) (h : before ≠ secondStage d) :
    switchCommand before (secondStage d) = .auto d := by
  cases d <;> exact if_neg h

/-- The first stage is a MANUAL command, but not on the way back from the second. -/
theorem switchCommand_first {before : SwitchPos} (d : Dir) (h1 : before ≠ firstStage d) (h2 : before ≠ secondStage d) :
    switchCommand before (firstStage d) = .manual d := by
  cases d <;> exact (if_neg h1).trans (if_neg h2)

theorem switchCommand_release {before : SwitchPos} (h : before = .up1 ∨ before = .down1) :
    switchCommand before .neutral = .release := by
  rcases h with rfl | rfl <;> rfl

/-- The way back from the second stage forms no command. -/
theorem switchCommand_back {before after : SwitchPos} (d : Dir) (hb : before = secondStage d)
    (ha : after = firstStage d ∨ after = .neutral) : switchCommand before after = .none := by
  rcases ha with rfl | rfl <;> subst hb <;> cases d <;> rfl

theorem switchCommand_same (pos : SwitchPos) : switchCommand pos pos = .none := if_pos rfl

theorem stageOne_first (d : Dir) : stageOne (firstStage d) = some d := by cases d <;> rfl

/-! ## The own switch (R88, R101) -/

/-- A change reaches window drive where there is a window, and child safety at a rear station does not stop it. -/
theorem windowSwitchChange_of_active (pos : SwitchPos) (ha : active s = true) (hw : s.pins.wakeDebounce = none) :
    exec (.windowSwitchChange pos) s = .next (conclude
      (if s.straps.position = 4 ∨ ((s.straps.position = 2 ∨ s.straps.position = 3) ∧ s.child.position = true) then
        { s with pins := { s.pins with ownSwitch := pos } }
      else
        ownSwitchChange (switchCommand s.pins.ownSwitch pos) { s with pins := { s.pins with ownSwitch := pos } })) := by
  have hwin : (!hasWindow s) = true ↔ s.straps.position = 4 := by
    simp [hasWindow, operating_of_active ha, isTailgate_iff]
  refine exec_of_event (by rfl) (operating_of_active ha) ?_
  simp only [inputChange_of_active _ ha hw, Bool.or_eq_true, Bool.and_eq_true, hwin, isRear_iff]

/-- A release ends a MANUAL move of the own switch (R101). -/
theorem releaseSwitch_of_move {m : Move} (hm : s.window.move = some m) (hk : m.kind = .manual)
    (hs : m.source = .ownSwitch) : releaseSwitch s = endMove .yieldingStop false false .none s :=
  endIf_of_move hm (by simp [hk, hs])

theorem releaseSwitch_of_other
    (hno : ∀ m, s.window.move = some m → ¬ (m.kind = .manual ∧ m.source = .ownSwitch)) : releaseSwitch s = s :=
  endIf_of_other fun m hm => by simpa using hno m hm

/-! ## The switches of the driver pack (R102) -/

theorem readsPack_iff (k : Fin 4) (s : State) :
    readsPack k s = true ↔
      isDriverStation s = true ∧ expectedStation s.straps.body k.val = true ∧ s.straps.position.val ≠ k.val := by
  simp [readsPack, expected, ownNumber, Fin.ext_iff, and_assoc]

theorem packChange_second {k : Fin 4} {before : SwitchPos} (d : Dir) (h : before ≠ secondStage d) :
    packChange k before (secondStage d) s = placeWindowreq k (autoAction d) (setRefresh k none s) := by
  rw [packChange, switchCommand_second d h]

/-- A MANUAL action of a pack switch starts its refresh timer. -/
theorem packChange_first {k : Fin 4} {before : SwitchPos} (d : Dir) (h1 : before ≠ firstStage d)
    (h2 : before ≠ secondStage d) :
    packChange k before (firstStage d) s = placeWindowreq k (manualAction d) (setRefresh k (some 0) s) := by
  rw [packChange, switchCommand_first d h1 h2]

theorem packChange_release {k : Fin 4} {before : SwitchPos} (h : before = .up1 ∨ before = .down1) :
    packChange k before .neutral s = placeWindowreq k .stop (setRefresh k none s) := by
  rw [packChange, switchCommand_release h]

theorem packChange_back {k : Fin 4} {before after : SwitchPos} (d : Dir) (hb : before = secondStage d)
    (ha : after = firstStage d ∨ after = .neutral) : packChange k before after s = setRefresh k none s := by
  have hne : before ≠ after := by
    rintro rfl
    cases d <;> subst hb <;> exact ha.elim nofun nofun
  rw [packChange, switchCommand_back d hb ha]
  exact if_neg hne

section
variable {k : Fin 4} (ha : active s = true) (hr : readsPack k s = true)
include ha hr

theorem packWindowSwitchChange_of_active (pos : SwitchPos) (hw : s.pins.wakeDebounce = none) :
    exec (.packWindowSwitchChange k pos) s = .next (conclude (packChange k s.pins.packSwitch[k] pos
      { s with pins := { s.pins with packSwitch := s.pins.packSwitch.set k.val pos k.isLt } })) :=
  exec_of_event (by rfl) (by simp [operating_of_active ha, hr]) (by simp only [inputChange_of_active _ ha hw])

/-- A refresh is the MANUAL action of the stage at which the switch stands (R102). -/
theorem packRefreshExpiry_of_first (d : Dir) (ht : s.pack.refresh[k] ≠ none)
    (hp : s.pins.packSwitch[k] = firstStage d) :
    exec (.packRefreshExpiry k) s =
      .next (conclude (placeWindowreq k (manualAction d) (setRefresh k (some 0)
        { s with pins := { s.pins with packSwitch := s.pins.packSwitch.set k.val (firstStage d) k.isLt } }))) := by
  have hsame : s.pins.packSwitch.set k.val (firstStage d) k.isLt = s.pins.packSwitch := by
    rw [← hp]
    exact Vector.set_getElem_self ..
  have hruns : (s.pack.refresh[k]).isSome = true := Option.isSome_iff_ne_none.mpr ht
  refine exec_of_event (by rfl) (by rw [ha, hr, hruns]; rfl) ?_
  rw [hp, stageOne_first, hsame]

end

end Sys2Proof.Machine

/-- Settles O52: the command that a change forms, at window drive and at the driver pack. -/
theorem windowSwitchRows : Obligations.WindowSwitchRows := by
  intro s ha hw
  constructor
  · intro pos s1 gated before
    have hx := windowSwitchChange_of_active pos ha hw
    refine ⟨fun hg => hx.trans (congrArg _ (congrArg _ (if_pos hg))), fun hg => ?_⟩
    replace hx : exec (.windowSwitchChange pos) s =
        .next (conclude (ownSwitchChange (switchCommand before pos) s1)) :=
      hx.trans (congrArg _ (congrArg _ (if_neg hg)))
    rw [hx]
    refine ⟨fun d hp hb => ?_, fun d hp hb hb2 => ?_, fun hp hb => ?_, fun hb => ?_⟩
    · obtain rfl : pos = secondStage d := hp
      rw [switchCommand_second d hb]
      rfl
    · obtain rfl : pos = firstStage d := hp
      rw [switchCommand_first d hb hb2]
      rfl
    · rw [hp, switchCommand_release hb, ownSwitchChange]
      exact ⟨fun m hm hk hs => by rw [releaseSwitch_of_move (s := s1) hm hk hs],
        fun hno => by rw [releaseSwitch_of_other (s := s1) hno]⟩
    · have hc : switchCommand before pos = .none := by
        rcases hb with hb | ⟨hb, hp⟩ | ⟨hb, hp⟩ | ⟨hb, hp⟩ | ⟨hb, hp⟩
        · rw [hb, switchCommand_same]
        · exact switchCommand_back .up hb (.inl hp)
        · exact switchCommand_back .down hb (.inl hp)
        · exact switchCommand_back .up hb (.inr hp)
        · exact switchCommand_back .down hb (.inr hp)
      rw [hc, ownSwitchChange]
  · intro k hd he hk before sent
    have hr : readsPack k s = true := (readsPack_iff k s).mpr ⟨hd, he, hk⟩
    have hx (pos : SwitchPos) := packWindowSwitchChange_of_active ha hr pos hw
    refine ⟨fun h2 => ?_, fun h2 => ?_, fun h1 h2 => ?_, fun h1 h2 => ?_, fun h1 => ?_, fun pos h => ?_,
      packRefreshExpiry_of_first ha hr .up, packRefreshExpiry_of_first ha hr .down⟩
    · exact (hx _).trans (congrArg _ (congrArg _ (packChange_second .up h2)))
    · exact (hx _).trans (congrArg _ (congrArg _ (packChange_second .down h2)))
    · exact (hx _).trans (congrArg _ (congrArg _ (packChange_first .up h1 h2)))
    · exact (hx _).trans (congrArg _ (congrArg _ (packChange_first .down h1 h2)))
    · exact (hx _).trans (congrArg _ (congrArg _ (packChange_release h1)))
    · refine (hx _).trans (congrArg _ (congrArg _ ?_))
      exact h.elim (fun h => packChange_back .up h.1 h.2) fun h => packChange_back .down h.1 h.2

end

section
/-! SUPPORT. The child switch, the child actuator and the driver's child button (R82 to R86, R88). -/

open Sys2Proof Sys2Proof.Machine Sys2Proof.Safety Sys2Proof.Claims

namespace Sys2Proof.Machine

variable {s : State}

/-! ## The child switch (R82, R88) -/

theorem running_of_active (ha : active s = true) : running s = true := running_of_operating (operating_of_active ha)

/-- A change to ON reaches window drive, and every change the child position. -/
theorem childSwitchChange_of_rear (b : Bool) (ha : active s = true) (hw : s.pins.wakeDebounce = none)
    (hp : s.straps.position = 2 ∨ s.straps.position = 3) :
    exec (.childSwitchChange b) s = .next (conclude
      (if b = true ∧ s.child.position = false then
        childOnWindow { s with child := { s.child with position := b } }
      else { s with child := { s.child with position := b } })) := by
  have hwin : hasWindow s = true :=
    (hasWindow_iff s).mpr ⟨operating_of_active ha, by rcases hp with hp | hp <;> simp [hp]⟩
  refine exec_of_event (by rfl) (by simp [running_of_active ha, (isRear_iff s).mpr hp]) ?_
  simp only [inputChange_of_active _ ha hw, hwin, Bool.and_true, Bool.and_eq_true, Bool.not_eq_true']

/-- Child ON ends a MANUAL or AUTO move of the own switch (R88). -/
theorem childOnWindow_of_move {m : Move} (hm : s.window.move = some m) (hs : m.source = .ownSwitch)
    (hk : m.kind = .manual ∨ m.kind = .auto) : childOnWindow s = endMove .yieldingStop false false .none s :=
  endIf_of_move hm (by simp [hs, hk])

theorem childOnWindow_of_other
    (hno : ∀ m, s.window.move = some m → ¬ (m.source = .ownSwitch ∧ (m.kind = .manual ∨ m.kind = .auto))) :
    childOnWindow s = s :=
  endIf_of_other fun m hm => by simpa [and_comm] using hno m hm

/-! ## Requests and the pulse (R83, R84) -/

theorem childRequest_of_idle {on : Bool} {c : Child} (h : c.pulse = none) :
    childRequest on c = if on = c.position then c else { c with pulse := some ⟨on, 0⟩, request := none } := by
  rw [childRequest, h]

/-- During a pulse the latest request waits, unless the pulse itself brings it about (R83). -/
theorem childRequest_of_pulse {on : Bool} {c : Child} {p : ChildPulse} (h : c.pulse = some p) :
    childRequest on c = { c with request := if p.towardOn = on then none else some on } := by
  rw [childRequest, h]

/-- The end of a pulse is compared with the child position (R84). -/
theorem childPulseEnd_of_pulse {p : ChildPulse} (ha : active s = true)
    (hr : s.straps.position = 2 ∨ s.straps.position = 3) (hp : s.child.pulse = some p) :
    exec .childPulseEnd s = .next (conclude
      (if p.towardOn = s.child.position then { s with child := childPulseOver s.child }
      else
        { captureAwake .childActuator (onByte p.towardOn) (onByte s.child.position) 0 s with
          child := childPulseOver s.child })) := by
  refine exec_of_event (by rfl) (by simp [ha, (isRear_iff s).mpr hr, hp]) ?_
  simp only [endChildPulse, hp, capture_of_awake s _ _ _ _ ((active_iff s).mp ha).2.2]
  split
  · rfl
  · rw [captureAwake_child]

/-! ## The driver's child button (R85, R86) -/

theorem childClear_iff (p : Peer) :
    childClear p = true ↔
      (p.presence = .present ∨ p.presence = .asleep) ∧ ∃ c, p.lastState = some c ∧ c.childOn = false := by
  cases h : p.lastState <;> simp [childClear, h]

/-- The child request that a press places (R85). -/
def askChild (action : Byte) (s : State) : State :=
  (place (ownTelegram s kLockreq [action, 4, s.lock.sequence]) (stepSequence s)).1

/-- The button asks for child ON where a rear station is known to be clear, and else for child OFF (R85). -/
theorem childPress_of_fiveDoor (h : s.straps.body = .fiveDoor) :
    childPress s =
      if childClear s.roster.peers[2] = true ∨ childClear s.roster.peers[3] = true then askChild 4 s
      else askChild 5 s := by
  have hpress : childPress s =
      askChild (if childClear s.roster.peers[2] || childClear s.roster.peers[3] then 4 else 5) s := by
    simp only [childPress, h]
    rfl
  rw [hpress, apply_ite (askChild · s)]
  simp only [Bool.or_eq_true]

theorem childPress_of_threeDoor (h : s.straps.body = .threeDoor) : childPress s = s := if_pos h

/-- The press is the change to closed (R85). -/
theorem childButtonPress_of_active (b : Bool) (ha : active s = true) (hd : isDriverStation s = true)
    (hw : s.pins.wakeDebounce = none) :
    exec (.childButtonPress b) s = .next (conclude
      (if b = true ∧ s.pins.childButton = false then
        childPress { s with pins := { s.pins with childButton := b } }
      else { s with pins := { s.pins with childButton := b } })) :=
  exec_of_driverRow ha hd (by rfl)
    (by simp only [inputChange_of_active _ ha hw, Bool.and_eq_true, Bool.not_eq_true'])

end Sys2Proof.Machine

/-- Settles O49: the rows of the switch, of the pulse and of the button, and the actuator by its pulse. -/
theorem childRows : Obligations.ChildRows := by
  refine ⟨fun s ha => ⟨fun hw hp => ?_, fun p hr hp => ?_, fun hw hd => ?_⟩, fun on c => ?_, fun c => ?_⟩
  · refine ⟨?_, fun hon => ?_, fun hoff => ?_⟩
    · rw [childSwitchChange_of_rear _ ha hw hp, if_neg (by simp)]
    · rw [childSwitchChange_of_rear _ ha hw hp, if_neg (by simp [hon]), ← hon]
    · intro s1
      rw [childSwitchChange_of_rear _ ha hw hp, if_pos ⟨rfl, hoff⟩]
      refine ⟨fun m hm hs hk => ?_, fun hno => ?_⟩
      · rw [childOnWindow_of_move (s := s1) hm hs hk]
      · rw [childOnWindow_of_other (s := s1) hno]
  · intro after
    have hx := childPulseEnd_of_pulse ha hr hp
    exact ⟨fun h => hx.trans (congrArg _ (congrArg _ (if_pos h))),
      fun h => hx.trans (congrArg _ (congrArg _ (if_neg h)))⟩
  · intro pressed clear ask
    have hclear : (childClear s.roster.peers[2] = true ∨ childClear s.roster.peers[3] = true) ↔
        clear s.roster.peers[2] ∨ clear s.roster.peers[3] := or_congr (childClear_iff _) (childClear_iff _)
    have hfive (hb : s.pins.childButton = false) (h5 : s.straps.body = .fiveDoor) :
        exec (.childButtonPress true) s = .next (conclude
          (if childClear s.roster.peers[2] = true ∨ childClear s.roster.peers[3] = true then ask 4 else ask 5)) := by
      rw [childButtonPress_of_active _ ha hd hw, if_pos ⟨rfl, hb⟩, childPress_of_fiveDoor (s := pressed) h5]
      rfl
    refine ⟨fun hb => ?_, fun hb h3 => ?_, fun hb h5 hc => ?_, fun hb h5 hc => ?_, ?_⟩
    · rw [childButtonPress_of_active _ ha hd hw, if_neg (by simp [hb]), ← hb]
    · rw [childButtonPress_of_active _ ha hd hw, if_pos ⟨rfl, hb⟩, childPress_of_threeDoor (s := pressed) h3]
    · rw [hfive hb h5, if_pos (hclear.mpr hc)]
    · rw [hfive hb h5, if_neg (hclear.not.mpr hc)]
    · rw [childButtonPress_of_active _ ha hd hw, if_neg (by simp)]
  · refine ⟨fun hp ho => ?_, fun hp ho => ?_, fun e hp => ?_, fun e hp => ?_⟩
    · rw [childRequest_of_idle hp, if_pos ho]
    · rw [childRequest_of_idle hp, if_neg ho]
    · rw [childRequest_of_pulse hp, if_pos rfl]
    · rw [childRequest_of_pulse hp, if_neg (by simp)]
  · exact ⟨fun hp => by rw [childOutput, hp]; rfl, fun p hp => by rw [childOutput, hp]; rfl⟩

end

section
/-! SUPPORT. The permission tests of a command (R105, R106, R121). -/

open Sys2Proof Sys2Proof.Machine Sys2Proof.Safety Sys2Proof.Claims

namespace Sys2Proof.Machine

/-! ## The tests (R106) -/

theorem reversing_iff (w : Window) : reversing w = true ↔ ∃ m, w.move = some m ∧ m.kind = .reversal := by
  cases h : w.move <;> simp [reversing, h]

theorem globalRunning_iff (w : Window) : globalRunning w = true ↔ ∃ m, w.move = some m ∧ m.kind = .global := by
  cases h : w.move <;> simp [globalRunning, h]

theorem knowsTop_iff (s : State) :
    knowsTop s = true ↔
      ∃ t, s.window.knowledge = .positioned ∧ s.window.pTop = some t ∧ fullyLearned t s.pinch.profile = true := by
  cases hk : s.window.knowledge <;> cases ht : s.window.pTop <;> simp [knowsTop, hk, ht]

/-- The permission tests 2 to 8 of R106, one by one. -/
theorem permitted_iff (c : Command) (s : State) :
    permitted c s = true ↔
      (c.dir = .up → s.crash.hold = false) ∧
      (c.dir = .up → ∀ m, s.window.move = some m → m.kind ≠ .reversal) ∧
      (c.kind = .auto → c.dir = .up → ∀ r, s.window.run = some r → r.override = false) ∧
      (c.dir = .up → c.kind = .auto ∨ c.kind = .global →
        ∃ t, s.window.knowledge = .positioned ∧ s.window.pTop = some t ∧ fullyLearned t s.pinch.profile = true) ∧
      (c.kind ≠ .global →
        (s.vehicle.ignition = .on ∨ s.vehicle.afterRun ≠ none) ∧ s.vehicle.ignition ≠ .crank) ∧
      90 ≤ s.supply.value ∧ s.supply.value ≤ 160 ∧
      (s.window.heat < 900 ∨ (c.kind = .global ∧ c.dir = .up)) := by
  have hrev : reversing s.window = false ↔ ∀ m, s.window.move = some m → m.kind ≠ .reversal := by
    rw [← Bool.not_eq_true, reversing_iff]
    simp
  rw [← hrev, ← knowsTop_iff]
  cases hr : s.window.run <;> by_cases hg : c.kind = .global <;>
    simp [permitted, hr, hg, Option.isSome_iff_ne_none, and_assoc] <;>
    simp only [imp_iff_not_or, or_assoc]

/-- A command clears HALTED, and no test reads the stop reason (R106 test 1). -/
@[simp] theorem permitted_onWindow_clearHalted (c : Command) (s : State) :
    permitted c (onWindow clearHalted s) = permitted c s := by
  unfold onWindow clearHalted
  split <;> rfl

theorem clearHalted_eq (w : Window) :
    clearHalted w = { w with stopReason := if w.stopReason = .halted then .none else w.stopReason } := by
  unfold clearHalted
  split <;> rfl

/-! ## Learned sectors (R121) -/

theorem zipIdx_toList {α : Type} {n : Nat} (v : Vector α n) :
    v.toArray.toList.zipIdx = (List.finRange n).map fun k => (v[k], k.val) :=
  List.ext_getElem (by simp) (by simp)

theorem fullyLearned_iff (t : Nat) (profile : Vector Sector 32) :
    fullyLearned t profile = true ↔
      ∀ i : Fin 32, (if t < 816 then 0 else t - 800) * 32 / (t + 1) ≤ i.val →
        i.val ≤ (t - 16) * 32 / (t + 1) → 1 ≤ (profile[i]).learn := by
  simp only [fullyLearned, zipIdx_toList, List.all_map, List.all_eq_true, List.mem_finRange, forall_const]
  refine forall_congr' fun i => ?_
  change (decide (i.val < sectorIndex t _) || decide (sectorIndex t _ < i.val) || decide (1 ≤ (profile[i]).learn)) =
    true ↔ _
  simp only [Bool.or_eq_true, decide_eq_true_eq, or_assoc, imp_iff_not_or, Nat.not_le]
  rfl

/-! ## The effect of a command (R104, R106, R137) -/

section
variable {c : Command} {s : State}

theorem takeCommand_of_permitted (h : permitted c s = true) :
    takeCommand c s = takeMove c.move (onWindow clearHalted s) :=
  if_pos ((permitted_onWindow_clearHalted c s).trans h)

/-- A command that fails a test ends a GLOBAL move (R137). -/
theorem takeCommand_of_refused (h : ¬ permitted c s = true) :
    takeCommand c s =
      if globalRunning s.window = true then endMove .brakeStop false false .none (onWindow clearHalted s)
      else onWindow clearHalted s := by
  have hglobal : globalRunning (onWindow clearHalted s).window = globalRunning s.window := by
    simp only [globalRunning, onWindow_window, clearHalted_move]
  rw [← hglobal]
  exact if_neg (by rwa [permitted_onWindow_clearHalted])

theorem takeMove_of_off {m : Move} (hb : s.window.bridge = .off) :
    takeMove m s = startRun m { s with window := replaceMove m s.window } := by
  simp only [takeMove, hb]
  rfl

theorem takeMove_of_brake {m : Move} (hb : s.window.bridge = .brake) :
    takeMove m s = { s with window := replaceMove m s.window } := by
  simp only [takeMove, hb]
  rfl

/-- A run in the direction of the new move goes on, and another brakes first (R104). -/
theorem takeMove_of_drive {m : Move} {r : Run} (hb : s.window.bridge = .drive) (hr : s.window.run = some r) :
    takeMove m s =
      if r.dir = m.dir then { s with window := replaceMove m s.window }
      else { s with window := brakeOn (replaceMove m s.window), pinch := emptied s.pinch } := by
  simp only [takeMove, hb, hr, Option.map_some, Option.some.injEq]
  rfl

end

end Sys2Proof.Machine

/-- Settles O55: the tests one by one, and a command that passes them at each phase of the bridge, or fails them. -/
theorem commandPermission : Obligations.CommandPermission := by
  intro c s s1 ignition known passes
  have hpasses : permitted c s = true ↔ passes := permitted_iff c s
  refine ⟨clearHalted_eq _, fun t => fullyLearned_iff t _, rfl, hpasses, reversing_iff _,
    fun h => takeCommand_of_permitted (hpasses.mpr h), fun h hno => ?_, fun m h hm hk => ?_, ?_⟩
  · refine (takeCommand_of_refused (hpasses.not.mpr h)).trans (if_neg ?_)
    rw [globalRunning_iff]
    rintro ⟨m, hm, hk⟩
    exact hno m hm hk
  · exact (takeCommand_of_refused (hpasses.not.mpr h)).trans (if_pos ((globalRunning_iff _).mpr ⟨m, hm, hk⟩))
  · intro m taken
    exact ⟨takeMove_of_off, takeMove_of_brake,
      fun r hb hr hd => (takeMove_of_drive hb hr).trans (if_pos hd),
      fun r hb hr hd => (takeMove_of_drive hb hr).trans (if_neg hd)⟩

end

section
/-! SUPPORT. What the window laws see of a station (R96, R106, R113, R114): crash hold, and of the window record the
bridge, the directions of run and move, the knowledge with its travel, and H. The operations of the other blocks leave
all of it alone. -/

open Sys2Proof Sys2Proof.Machine Sys2Proof.Safety Sys2Proof.Claims

namespace Sys2Proof.Machine

/-- What the window laws see of a station. -/
structure WindowView where
  hold : Bool
  bridge : Bridge
  runDir : Option Dir
  moveDir : Option Dir
  knowledge : Knowledge
  pTop : Option Nat
  p : Nat
  heat : Nat

/-- What the laws see of a window record, in crash hold or not. -/
def recordView (hold : Bool) (w : Window) : WindowView :=
  ⟨hold, w.bridge, w.run.map (·.dir), w.move.map (·.dir), w.knowledge, w.pTop, w.p, w.heat⟩

def windowView (s : State) : WindowView := recordView s.crash.hold s.window

variable (s : State)

/-! ## Updates of one block, placements, captures, and the end of an event -/

/-- The frame lemmas below go through this one, also where `rfl` would do: simp does not discharge a side condition
with a rewrite that holds by `rfl` of a plain definition. -/
theorem windowView_of_same {s t : State} (hw : t.window = s.window) (hh : t.crash.hold = s.crash.hold) :
    windowView t = windowView s := by
  simp only [windowView, hw, hh]

@[simp] theorem onPinch_windowView (f : Pinch → Pinch) : windowView (onPinch f s) = windowView s :=
  windowView_of_same rfl rfl
@[simp] theorem onSearch_windowView (f : Search → Search) : windowView (onSearch f s) = windowView s :=
  windowView_of_same rfl rfl
@[simp] theorem onLink_windowView (f : Link → Link) : windowView (onLink f s) = windowView s :=
  windowView_of_same rfl rfl
@[simp] theorem onRf_windowView (f : Rf → Rf) : windowView (onRf f s) = windowView s := windowView_of_same rfl rfl
@[simp] theorem onElectrode_windowView (i : Fin 3) (f : Electrode → Electrode) :
    windowView (onElectrode i f s) = windowView s := windowView_of_same rfl rfl
@[simp] theorem onPeer_windowView (n : Fin 8) (f : Peer → Peer) : windowView (onPeer n f s) = windowView s :=
  windowView_of_same rfl rfl
@[simp] theorem markRecord_windowView (r : RecordName) : windowView (markRecord r s) = windowView s :=
  windowView_of_same rfl rfl
@[simp] theorem popRx_windowView : windowView (popRx s) = windowView s := windowView_of_same rfl rfl
@[simp] theorem setRefresh_windowView (k : Fin 4) (t : Option Nat) : windowView (setRefresh k t s) = windowView s :=
  windowView_of_same rfl rfl
@[simp] theorem stepSequence_windowView : windowView (stepSequence s) = windowView s := windowView_of_same rfl rfl
@[simp] theorem stopRelock_windowView : windowView (stopRelock s) = windowView s := windowView_of_same rfl rfl
@[simp] theorem endAfterRun_windowView : windowView (endAfterRun s) = windowView s := windowView_of_same rfl rfl
@[simp] theorem pauseTouch_windowView : windowView (pauseTouch s) = windowView s := windowView_of_same rfl rfl
@[simp] theorem setVerdict_windowView (v : Verdict) : windowView (setVerdict v s) = windowView s :=
  windowView_of_same rfl rfl
@[simp] theorem withdrawSearch_windowView : windowView (withdrawSearch s) = windowView s := windowView_of_same rfl rfl

@[simp] theorem onPresence_windowView (n : Fin 8) (f : Peer → Peer) : windowView (onPresence n f s) = windowView s := by
  simp only [windowView, onPresence_window, onPresence_crash]

@[simp] theorem captureAwake_windowView (k : FaultKind) (a b c : Byte) :
    windowView (captureAwake k a b c s) = windowView s := by
  simp only [windowView, captureAwake_window, captureAwake_crash]

@[simp] theorem place_windowView (t : Telegram) : windowView (place t s).1 = windowView s := by
  simp only [windowView, place_window, place_crash]

@[simp] theorem placeState_windowView : windowView (placeState s) = windowView s := by
  simp only [windowView, placeState_window, placeState_crash]

@[simp] theorem conclude_windowView : windowView (conclude s) = windowView s := by
  rw [conclude_endedAs]
  rfl

@[simp] theorem wake_windowView : windowView (wake s) = windowView s := by
  unfold wake
  split
  · exact placeState_windowView (wakeBlocks s)
  · rfl

@[simp] theorem capture_windowView (k : FaultKind) (a b c : Byte) :
    windowView (capture k a b c s) = windowView s := by
  simp [capture]

@[simp] theorem debounced_windowView (i : SwitchInput) : windowView (debounced i s) = windowView s :=
  windowView_of_same rfl rfl

@[simp] theorem inputChange_windowView (i : SwitchInput) : windowView (inputChange i s) = windowView s := by
  simp [inputChange]

/-! ## Lock logic and latch drive -/

@[simp] theorem takeLock_windowView (src : ActionSource) (c : LockCause) (n : Byte) (own : Bool) :
    windowView (takeLock src c n own s) = windowView s := by
  simp only [takeLock]; split_ifs <;> rfl

@[simp] theorem takeDeadlock_windowView (src : ActionSource) (c : LockCause) (n : Byte) (own : Bool) :
    windowView (takeDeadlock src c n own s) = windowView s := by
  simp only [takeDeadlock]
  split_ifs
  · rfl
  · exact takeLock_windowView s src c n own
  · rfl

@[simp] theorem takeUnlock_windowView (src : ActionSource) (c : LockCause) (own : Bool) :
    windowView (takeUnlock src c own s) = windowView s := windowView_of_same rfl rfl

@[simp] theorem takeRequest_windowView (a : CentralAction) (src : ActionSource) (c : LockCause) (n : Byte)
    (own : Bool) : windowView (takeRequest a src c n own s) = windowView s := by
  cases a
  · exact takeLock_windowView s src c n own
  · simp only [takeRequest]; split <;> simp
  · exact takeUnlock_windowView s src c own

@[simp] theorem requestOutcome_windowView (q : Byte) (confirmed : Bool) :
    windowView (requestOutcome q confirmed s) = windowView s := by
  unfold requestOutcome
  split
  · rfl
  · split
    · dsimp only
      split
      · exact takeRequest_windowView s ..
      · rfl
    · rfl

@[simp] theorem placeRequest_windowView (a : CentralAction) (c : LockCause) (n : Byte) :
    windowView (placeRequest a c n s) = windowView s := by
  have hplaced : ∀ t, windowView (place t (stepSequence s)).1 = windowView s := by simp
  simp only [placeRequest]
  split <;> exact (takeRequest_windowView _ ..).trans (hplaced _)

@[simp] theorem keyLock_windowView : windowView (keyLock s) = windowView s := by
  unfold keyLock
  split <;> exact placeRequest_windowView { s with lock := _ } ..

@[simp] theorem driveAwayTest_windowView : windowView (driveAwayTest s) = windowView s := by
  unfold driveAwayTest
  split_ifs
  · exact takeLock_windowView { s with lock := _ } ..
  · rfl

@[simp] theorem peerChange_windowView (n : Fin 8) (opened : Bool) :
    windowView (peerChange n opened s) = windowView s := by
  simp only [peerChange]; split <;> simp

@[simp] theorem vehicleChangeLock_windowView : windowView (vehicleChangeLock s) = windowView s := by
  simp only [vehicleChangeLock]; split <;> simp

@[simp] theorem followUpLock_windowView : windowView (followUpLock s) = windowView s := by
  simp only [followUpLock]; split_ifs <;> rfl

@[simp] theorem doorOpenLatch_windowView : windowView (doorOpenLatch s) = windowView s := by
  simp only [doorOpenLatch]; split <;> rfl

@[simp] theorem doorChange_windowView (b : Bool) : windowView (doorChange b s) = windowView s := by
  simp only [doorChange]; split_ifs <;> simp <;> rfl

@[simp] theorem releaseRequest_windowView : windowView (releaseRequest s) = windowView s := by
  simp only [releaseRequest]; repeat' split
  all_goals rfl

@[simp] theorem handlePull_windowView : windowView (handlePull s) = windowView s := by
  simp only [handlePull]; split <;> rfl

@[simp] theorem withTimeout_windowView (r : Latch × Bool) : windowView (withTimeout r s) = windowView s := by
  simp only [withTimeout]
  split
  · exact capture_windowView { s with latch := r.1 } ..
  · rfl

/-! ## Child safety, search and touch -/

@[simp] theorem takeChildRequest_windowView (on : Bool) : windowView (takeChildRequest on s) = windowView s := by
  simp only [takeChildRequest]; split <;> rfl

@[simp] theorem endChildPulse_windowView : windowView (endChildPulse s) = windowView s := by
  unfold endChildPulse
  split
  · rfl
  · dsimp only
    split
    · rfl
    · exact capture_windowView s ..

@[simp] theorem childPress_windowView : windowView (childPress s) = windowView s := by
  simp only [childPress]; split <;> simp

@[simp] theorem setCrashNumber_windowView (n : Fin 8) (x : Byte) :
    windowView (setCrashNumber n x s) = windowView s := by
  simp only [setCrashNumber]; split <;> rfl

@[simp] theorem resumeTouch_windowView : windowView (resumeTouch s) = windowView s := windowView_of_same rfl rfl

@[simp] theorem abandonSearch_windowView : windowView (abandonSearch s) = windowView s := windowView_of_same rfl rfl

@[simp] theorem searchOutcome_windowView (t : Telegram) (sent : Bool) :
    windowView (searchOutcome t sent s) = windowView s := by
  simp only [searchOutcome]; split_ifs <;> rfl

@[simp] theorem stateAttemptEnded_windowView : windowView (stateAttemptEnded s) = windowView s := by
  simp only [stateAttemptEnded]; split <;> rfl

@[simp] theorem takeReadings_windowView (f : Fin 4) (n : Byte) (r : List Byte) :
    windowView (takeReadings f n r s) = windowView s := by
  simp only [takeReadings]; repeat' split
  all_goals rfl

@[simp] theorem placeSearch_windowView : windowView (placeSearch s) = windowView s := by
  simp only [placeSearch]
  split <;> split <;> simp

@[simp] theorem startSearch_windowView (z : Zone) (woke : Bool) :
    windowView (startSearch z woke s) = windowView s := by
  simp only [startSearch]; split <;> simp

@[simp] theorem touchSearch_windowView (z : Zone) (woke : Bool) :
    windowView (touchSearch z woke s) = windowView s := by
  unfold touchSearch
  split
  · exact startSearch_windowView s z woke
  all_goals split <;> rfl

@[simp] theorem decideSearch_windowView (z : Zone) : windowView (decideSearch z s) = windowView s := by
  simp only [decideSearch]
  repeat' split
  all_goals simp <;> rfl

@[simp] theorem endCollection_windowView : windowView (endCollection s) = windowView s := by
  simp only [endCollection]; split <;> simp

@[simp] theorem joinSearch_windowView (keep : Bool) (x : Byte) (y : BitVec 6) (t : Nat) :
    windowView (joinSearch keep x y t s) = windowView s := by
  simp only [joinSearch]; repeat' split
  all_goals simp

@[simp] theorem takeSearch_windowView (x : Byte) (y : BitVec 6) (t : Nat) :
    windowView (takeSearch x y t s) = windowView s := by
  unfold takeSearch; split <;> simp

@[simp] theorem waitOver_windowView : windowView (waitOver s) = windowView s := by
  simp only [waitOver]; repeat' split
  all_goals simp

@[simp] theorem slotOver_windowView (b : Bool) : windowView (slotOver b s) = windowView s := by
  simp only [slotOver]; repeat' split
  all_goals simp

@[simp] theorem touchEvent_windowView (z : Zone) (woke : Bool) :
    windowView (touchEvent z woke s) = windowView s := by
  simp only [touchEvent]; split_ifs <;> simp

@[simp] theorem afterKept_windowView (i : Fin 3) (e : Electrode) : windowView (afterKept i e s) = windowView s := by
  simp only [afterKept]; split_ifs <;> simp

@[simp] theorem measure_windowView (i : Fin 3) (c : Nat) : windowView (measure i c s) = windowView s := by
  simp only [measure]; repeat' split
  all_goals simp

@[simp] theorem startPeriod_windowView : windowView (startPeriod s) = windowView s := windowView_of_same rfl rfl

@[simp] theorem chainMeasurement_windowView (i : Fin 3) : windowView (chainMeasurement i s) = windowView s :=
  windowView_of_same rfl rfl

@[simp] theorem measurementOver_windowView (c : Nat) : windowView (measurementOver c s) = windowView s := by
  unfold measurementOver; split <;> simp

/-! ## Fobs, settings and the roster -/

@[simp] theorem fobLock_windowView (f : Fin 4) (c : BitVec 24) : windowView (fobLock f c s) = windowView s := by
  simp only [fobLock]; split <;> simp

@[simp] theorem fobUnlock_windowView (f : Fin 4) (c : BitVec 24) : windowView (fobUnlock f c s) = windowView s := by
  simp only [fobUnlock]; split <;> simp

@[simp] theorem startWrite_windowView : windowView (startWrite s) = windowView s := by
  unfold startWrite; split <;> rfl

@[simp] theorem placeAnswer_windowView (k : Subtype) (r : Byte) : windowView (placeAnswer k r s) = windowView s := by
  simp [placeAnswer]

@[simp] theorem answerWrite_windowView (r : RecordName) (ok : Bool) :
    windowView (answerWrite r ok s) = windowView s := by
  simp only [answerWrite]; repeat' split
  all_goals simp <;> rfl

@[simp] theorem endWrite_windowView (ok : Bool) : windowView (endWrite ok s) = windowView s := by
  simp only [endWrite]; repeat' split
  all_goals simp <;> rfl

@[simp] theorem clearFilters_windowView (n : Fin 8) : windowView (clearFilters n s) = windowView s := by
  simp [clearFilters]

@[simp] theorem evidence_windowView (n : Fin 8) : windowView (evidence n s) = windowView s := by
  simp only [evidence]; split <;> simp

@[simp] theorem takeState_windowView (n : Fin 8) (c : StateContents) :
    windowView (takeState n c s) = windowView s := by
  simp only [takeState]; split_ifs <;> simp

@[simp] theorem takeCentral_windowView (n : Fin 8) (a : CentralAction) (c : LockCause) (q x : Byte) :
    windowView (takeCentral n a c q x s) = windowView s := by
  simp only [takeCentral, filterLockreq]; split <;> simp

@[simp] theorem takeChild_windowView (n : Fin 8) (on : Bool) (q : Byte) :
    windowView (takeChild n on q s) = windowView s := by
  simp only [takeChild, filterLockreq]; split <;> simp

/-! ## The pack switches, and the outcomes of attempts -/

@[simp] theorem placeWindowreq_windowView (k : Fin 4) (a : WindowAction) :
    windowView (placeWindowreq k a s) = windowView s := by
  simp [placeWindowreq]

@[simp] theorem packChange_windowView (k : Fin 4) (b a : SwitchPos) :
    windowView (packChange k b a s) = windowView s := by
  simp only [packChange]; repeat' split
  all_goals simp

@[simp] theorem stateOutcome_windowView (collided : Bool) : windowView (stateOutcome collided s) = windowView s := by
  simp only [stateOutcome]; split_ifs <;> rfl

@[simp] theorem trySettle_windowView : windowView (trySettle s) = windowView s := by
  simp only [trySettle]; split <;> rfl

@[simp] theorem powerReceived_windowView (t : Telegram) : windowView (powerReceived t s) = windowView s :=
  windowView_of_same rfl rfl

@[simp] theorem deliverOutcome_windowView (collided left : Bool) (t : Telegram) :
    windowView (deliverOutcome collided left t s) = windowView s := by
  unfold deliverOutcome
  repeat' split
  all_goals simp

@[simp] theorem dropEntry_windowView (e : TxEntry) : windowView (dropEntry s e) = windowView s := by
  unfold dropEntry
  repeat' split
  all_goals simp

@[simp] theorem endAttempt_windowView (slots : Byte) (c : Bool) : windowView (endAttempt slots c s) = windowView s := by
  unfold endAttempt
  split
  · rfl
  · dsimp only
    rw [deliverOutcome_windowView, apply_ite windowView, captureAwake_windowView, ite_self]
    rfl

@[simp] theorem enterStuck_windowView : windowView (enterStuck s) = windowView s := by
  have hfold : ∀ (es : List TxEntry) (u : State), windowView (es.foldl dropEntry u) = windowView u := by
    intro es
    induction es with
    | nil => exact fun _ => rfl
    | cons e es ih => exact fun u => (ih _).trans (dropEntry_windowView u e)
  simp only [enterStuck, capture_windowView, hfold, onLink_windowView]

end Sys2Proof.Machine
end

section
/-! SUPPORT. The window laws at a station (R96, R106, R113, R114): the operations of window drive, what reaches them
from the other blocks, and every command. -/

open Sys2Proof Sys2Proof.Machine Sys2Proof.Safety Sys2Proof.Claims

namespace Sys2Proof.Machine

/-! ## The laws of a view -/

/-- The window laws as a property of what they see of a station. -/
structure WindowView.Lawful (v : WindowView) : Prop where
  run : ∀ d, v.runDir = some d → v.bridge = .drive ∧ v.moveDir = some d
  up : v.hold = true → v.moveDir ≠ some .up
  travel : v.knowledge = .positioned → ∃ t, v.pTop = some t ∧ 400 ≤ t ∧ t ≤ 4000 ∧ v.p ≤ t
  heat : v.heat ≤ 1000

theorem windowLaw_iff_lawful (s : State) : WindowLaw s ↔ (windowView s).Lawful := by
  have hdown : ∀ m : Move, m.dir = .down ↔ m.dir ≠ .up := fun m => by cases m.dir <;> simp
  constructor
  · rintro ⟨hrun, hhold, htravel, hheat⟩
    refine ⟨?_, ?_, htravel, hheat⟩
    · simpa [windowView, recordView] using hrun
    · simpa [windowView, recordView, hdown] using hhold
  · rintro ⟨hrun, hup, htravel, hheat⟩
    refine ⟨?_, ?_, htravel, hheat⟩
    · simpa [windowView, recordView] using hrun
    · simpa [windowView, recordView, hdown] using hup

section
variable {v : WindowView} (h : v.Lawful)
include h

/-- The end of crash hold takes a condition away (R94). -/
theorem WindowView.Lawful.released : { v with hold := false }.Lawful := ⟨h.run, nofun, h.travel, h.heat⟩

/-- A run that ends while its move goes on. -/
theorem WindowView.Lawful.stopped (b : Bridge) : { v with bridge := b, runDir := none }.Lawful :=
  ⟨nofun, h.up, h.travel, h.heat⟩

/-- A move that ends, with its run, may end in crash hold (R90, R112). -/
theorem WindowView.Lawful.ended (hold : Bool) (b : Bridge) :
    { v with hold := hold, bridge := b, runDir := none, moveDir := none }.Lawful :=
  ⟨nofun, fun _ => nofun, h.travel, h.heat⟩

/-- A move that replaces another while no run goes the other way (R104, R106). -/
theorem WindowView.Lawful.replaced {d : Dir} (hup : v.hold = true → d ≠ .up)
    (hrun : ∀ r, v.runDir = some r → r = d) : { v with moveDir := some d }.Lawful :=
  ⟨fun r hr => ⟨(h.run r hr).1, congrArg some (hrun r hr).symm⟩,
    fun hh hd => hup hh (Option.some.inj hd), h.travel, h.heat⟩

/-- A run that starts in the direction of its move, with its charge (R104, R113). -/
theorem WindowView.Lawful.started {d : Dir} (hm : v.moveDir = some d) (n : Nat) :
    { v with bridge := .drive, runDir := some d, heat := min 1000 n }.Lawful :=
  ⟨fun _ hr => ⟨rfl, hm.trans hr⟩, h.up, h.travel, Nat.min_le_left ..⟩

/-- A position within the travel (R96). -/
theorem WindowView.Lawful.moved {p : Nat} (hp : ∀ t, v.knowledge = .positioned → v.pTop = some t → p ≤ t) :
    { v with p := p }.Lawful :=
  ⟨h.run, h.up, fun hk => by
    obtain ⟨t, ht, hlo, hhi, -⟩ := h.travel hk
    exact ⟨t, ht, hlo, hhi, hp t hk ht⟩, h.heat⟩

/-- A window whose travel is not known has no travel to lie in (R97, R99). -/
theorem WindowView.Lawful.unknown {k : Knowledge} (hk : k ≠ .positioned) (t : Option Nat) :
    { v with knowledge := k, pTop := t }.Lawful := ⟨h.run, h.up, fun hp => absurd hp hk, h.heat⟩

/-- A top that is learned within its range, at the position that the window stands at (R99). -/
theorem WindowView.Lawful.learned {t : Nat} (hlo : 400 ≤ t) (hhi : t ≤ 4000) :
    { v with knowledge := .positioned, pTop := some t, p := t }.Lawful :=
  ⟨h.run, h.up, fun _ => ⟨t, rfl, hlo, hhi, Nat.le_refl t⟩, h.heat⟩

theorem WindowView.Lawful.heated {n : Nat} (hn : n ≤ 1000) : { v with heat := n }.Lawful :=
  ⟨h.run, h.up, h.travel, hn⟩

end

variable {s : State}

/-! ## The end of a move (R112) -/

theorem endCounter_recordView (hold atTop : Bool) (w : Window) :
    recordView hold (endCounter atTop w) = recordView hold w := by
  unfold endCounter
  split_ifs <;> rfl

theorem setHolds_recordView (hold : Bool) (m : Move) (w : Window) :
    recordView hold (setHolds m w) = recordView hold w := by
  unfold setHolds
  split_ifs <;> rfl

/-- An ending leaves the move record empty, and the rest of what the laws see to the bridge. -/
theorem endMoveWindow_recordView (hold : Bool) (manner : Manner) (a b : Bool) (r : StopReason) (m : Move) (w : Window) :
    recordView hold (endMoveWindow manner a b r m w) =
      { recordView hold w with
        bridge := (endBridge manner w).bridge, runDir := (endBridge manner w).run.map (·.dir), moveDir := none } := by
  unfold endMoveWindow
  dsimp only
  rw [endCounter_recordView, apply_ite (recordView hold), setHolds_recordView, ite_self]
  unfold endBridge
  split <;> rfl

/-- Where a run is one of the bridge in DRIVE, an ending leaves none. -/
theorem endBridge_run (manner : Manner) {w : Window} (h : ∀ d, w.run.map (·.dir) = some d → w.bridge = .drive) :
    (endBridge manner w).run = none := by
  have hnone : w.bridge ≠ .drive → w.run = none := fun hb => by
    cases hr : w.run with
    | none => rfl
    | some r => exact absurd (h r.dir (by simp [hr])) hb
  unfold endBridge
  split
  · rfl
  · rfl
  · rfl
  · rfl
  · exact hnone (by simp [*])
  · exact hnone (by simp [*])
  · exact hnone (by simp [*])

@[simp] theorem handAccumulators_windowView (atTop : Bool) (s : State) :
    windowView (handAccumulators atTop s) = windowView s := by
  simp only [handAccumulators]; split_ifs <;> rfl

/-- An ending brings the laws back at a station that has just entered crash hold: what moved up has ended (R90). -/
theorem endMove_windowLawful_of_released (manner : Manner) (a b : Bool) (r : StopReason)
    (h : { windowView s with hold := false }.Lawful) : (windowView (endMove manner a b r s)).Lawful := by
  unfold endMove
  split
  · exact ⟨h.run, fun _ hm => by simp_all [windowView, recordView], h.travel, h.heat⟩
  · rename_i m _
    rw [handAccumulators_windowView, windowView, onWindow_window, onWindow_crash, endMoveWindow_recordView,
      endBridge_run manner fun d hd => (h.run d hd).1]
    exact h.ended s.crash.hold _

@[simp] theorem endMove_windowLawful (manner : Manner) (a b : Bool) (r : StopReason) (h : (windowView s).Lawful) :
    (windowView (endMove manner a b r s)).Lawful :=
  endMove_windowLawful_of_released manner a b r h.released

@[simp] theorem endIf_windowLawful (manner : Manner) (f : Move → Bool) (b : Bool) (h : (windowView s).Lawful) :
    (windowView (endIf manner f b s)).Lawful := by
  unfold endIf
  split
  · split <;> simp [h]
  · exact h

@[simp] theorem thermalEnd_windowLawful (h : (windowView s).Lawful) : (windowView (thermalEnd s)).Lawful := by
  unfold thermalEnd
  split <;> simp [h]

/-! ## Runs and commands (R104 to R106, R113) -/

@[simp] theorem startRun_windowLawful (m : Move) (h : (windowView s).Lawful) (hm : (windowView s).moveDir = some m.dir) :
    (windowView (startRun m s)).Lawful := by
  simp only [startRun]
  refine thermalEnd_windowLawful ?_
  split <;> exact h.started hm _

/-- A command replaces the move; a run that goes the other way brakes first (R104). -/
theorem takeMove_windowLawful (m : Move) (h : (windowView s).Lawful) (hup : s.crash.hold = true → m.dir ≠ .up) :
    (windowView (takeMove m s)).Lawful := by
  have hrest : s.window.bridge ≠ .drive → { windowView s with moveDir := some m.dir }.Lawful := fun hb =>
    h.replaced hup fun r hr => absurd (h.run r hr).1 hb
  unfold takeMove
  dsimp only
  split
  · exact startRun_windowLawful m (hrest (by simp [*])) rfl
  · exact hrest (by simp [*])
  · split
    · rename_i hsame
      exact h.replaced hup fun r hr => Option.some.inj (hr.symm.trans hsame)
    · exact (h.stopped .brake).replaced hup nofun

/-- A permitted command does not go up in crash hold (R106). -/
theorem dir_ne_up_of_permitted {c : Command} (hp : permitted c s = true) (hh : s.crash.hold = true) : c.dir ≠ .up :=
  fun hd => by simp [((permitted_iff c s).mp hp).1 hd] at hh

theorem clearHalted_recordView (hold : Bool) (w : Window) : recordView hold (clearHalted w) = recordView hold w := by
  unfold clearHalted
  split <;> rfl

@[simp] theorem onWindow_clearHalted_windowView (s : State) :
    windowView (onWindow clearHalted s) = windowView s := clearHalted_recordView s.crash.hold s.window

@[simp] theorem takeCommand_windowLawful (c : Command) (h : (windowView s).Lawful) :
    (windowView (takeCommand c s)).Lawful := by
  have hclear : (windowView (onWindow clearHalted s)).Lawful := by simpa using h
  unfold takeCommand
  dsimp only
  split
  · rename_i hp
    exact takeMove_windowLawful c.move hclear (dir_ne_up_of_permitted hp)
  · split
    · exact endMove_windowLawful _ _ _ _ hclear
    · exact hclear

@[simp] theorem ownSwitchChange_windowLawful (c : SwitchCommand) (h : (windowView s).Lawful) :
    (windowView (ownSwitchChange c s)).Lawful := by
  cases c <;> simp [ownSwitchChange, releaseSwitch, h]

/-- A refresh keeps the direction of the move (R103). -/
@[simp] theorem packManual_windowLawful (d : Dir) (h : (windowView s).Lawful) : (windowView (packManual d s)).Lawful := by
  have hnew : (windowView (onWindow (fun w => { w with spentHold := none }) s)).Lawful := h
  unfold packManual
  dsimp only
  split
  · rename_i m hm
    split
    · have hview : windowView s = { windowView s with moveDir := some m.dir } := by simp [windowView, recordView, hm]
      rw [hview] at h
      exact h
    · split
      · exact h
      · exact takeCommand_windowLawful _ hnew
  · split
    · exact h
    · exact takeCommand_windowLawful _ hnew

@[simp] theorem windowRequest_windowLawful (a : WindowAction) (h : (windowView s).Lawful) :
    (windowView (windowRequest a s)).Lawful := by
  have hnew : (windowView (onWindow (fun w => { w with spentHold := none }) s)).Lawful := h
  have hstop : (windowView (onWindow (fun w => { clearHalted w with spentHold := none }) s)).Lawful := by
    rwa [← onWindow_clearHalted_windowView] at h
  cases a
  case stop => exact endIf_windowLawful _ _ _ hstop
  all_goals simp [windowRequest, packAuto, h, hnew]

/-! ## Steps, stalls and end stops (R96 to R99) -/

/-- A knowledge without a travel may be set at any position (R97, R98). -/
theorem setKnowledge_windowLawful {k : Knowledge} (hk : k ≠ .positioned) (h : (windowView s).Lawful) :
    (windowView (setKnowledge k s)).Lawful := by
  unfold setKnowledge
  split
  · exact h
  · exact h.unknown hk _

@[simp] theorem unexpectedEdge_windowLawful (h : (windowView s).Lawful) : (windowView (unexpectedEdge s)).Lawful := by
  have hcounted : ∀ n, (windowView (onWindow (fun w => { w with unexpected := n }) s)).Lawful := fun _ => h
  unfold unexpectedEdge
  split
  · exact h
  · dsimp only
    split
    · rw [capture_windowView]
      exact setKnowledge_windowLawful nofun (hcounted _)
    · exact hcounted _

@[simp] theorem bottomEnd_windowLawful (h : (windowView s).Lawful) : (windowView (bottomEnd s)).Lawful := by
  have hzero : (windowView (onWindow (fun w => { w with p := 0 }) s)).Lawful := h.moved fun _ _ _ => Nat.zero_le _
  unfold bottomEnd
  refine endMove_windowLawful _ _ _ _ ?_
  split
  · exact setKnowledge_windowLawful nofun hzero
  · exact hzero

@[simp] theorem blocked_windowLawful (h : (windowView s).Lawful) : (windowView (blocked s)).Lawful :=
  endMove_windowLawful _ _ _ _ h

/-- A window that stands at its top (R98). -/
theorem topEnd_windowLawful {t : Nat} (h : { windowView s with p := t }.Lawful) : (windowView (topEnd t s)).Lawful :=
  endMove_windowLawful _ _ _ _ h

@[simp] theorem learnTop_windowLawful (h : (windowView s).Lawful) : (windowView (learnTop s)).Lawful := by
  have hlearned : ∀ u : State, windowView u = windowView s → 400 ≤ s.window.p → s.window.p ≤ 4000 →
      { windowView
          (setKnowledge .positioned (onWindow (fun w => { w with pTop := some s.window.p }) u)) with
        p := s.window.p }.Lawful := by
    intro u hu hlo hhi
    rw [← hu] at h
    unfold setKnowledge
    split
    · rename_i hk
      have hview := h.learned hlo hhi
      rw [show Knowledge.positioned = u.window.knowledge from hk.symm] at hview
      exact hview
    · exact h.learned hlo hhi
  unfold learnTop
  dsimp only
  split
  · rename_i hrange
    refine topEnd_windowLawful (hlearned _ ?_ hrange.1 hrange.2)
    split
    · split
      · exact onPinch_windowView ..
      · rfl
    · rfl
  · exact blocked_windowLawful (by simpa using h)

/-- A declared pinch brakes, and the reversal goes down (R114, R126). -/
@[simp] theorem declarePinch_windowLawful (h : (windowView s).Lawful) : (windowView (declarePinch s)).Lawful := by
  have hreversal : ∀ w, recordView s.crash.hold w = recordView s.crash.hold (brakeOn s.window) →
      { recordView s.crash.hold w with moveDir := some .down }.Lawful := fun w hw =>
    hw ▸ (h.stopped .brake).replaced (fun _ => nofun) nofun
  unfold declarePinch
  split
  · exact h
  · rename_i m _
    rw [place_windowView]
    refine hreversal (if m.kind = .manual ∧ m.source = .pack then setHolds m (brakeOn s.window)
      else brakeOn s.window) ?_
    rw [apply_ite (recordView _), setHolds_recordView, ite_self]

@[simp] theorem stalled_windowLawful (h : (windowView s).Lawful) : (windowView (stalled s)).Lawful := by
  unfold stalled
  split
  · exact h
  · dsimp only
    split
    · exact bottomEnd_windowLawful h
    · exact blocked_windowLawful h
    · exact learnTop_windowLawful h
    · split <;> simp [h]
    · split <;> simp [h]
    · rename_i t _ _ ht
      split
      · exact topEnd_windowLawful (h.moved fun u _ hu => Nat.le_of_eq (Option.some.inj (ht.symm.trans hu)))
      · split <;> simp [h]
    · exact blocked_windowLawful h

@[simp] theorem reversalStep_windowLawful (h : (windowView s).Lawful) : (windowView (reversalStep s)).Lawful := by
  unfold reversalStep
  split
  · split
    · split <;> simp [h]
    · exact h
  · exact h

/-- A step of a POSITIONED window ends at its top at the latest (R96). -/
theorem stepPosition_le (d : Dir) {w : Window} {t : Nat} (hk : w.knowledge = .positioned) (ht : w.pTop = some t) :
    stepPosition d w ≤ t := by
  simp only [stepPosition, hk, ht]
  exact Nat.min_le_left ..

theorem stepped_windowLawful (d : Dir) (h : (windowView s).Lawful) :
    (windowView (onWindow (fun w => { w with p := stepPosition d w }) s)).Lawful :=
  h.moved fun _ hk ht => stepPosition_le d hk ht

@[simp] theorem hallEdge_windowLawful (h : (windowView s).Lawful) : (windowView (hallEdge s)).Lawful := by
  unfold hallEdge
  split
  · rename_i r hb hr
    have hview : windowView s = { windowView s with runDir := some r.dir } := by simp [windowView, recordView, hr]
    have hstep : (windowView (onWindow
        (fun w => { w with p := stepPosition r.dir w, run := some { r with stall := 0 } }) s)).Lawful := by
      rw [hview] at h
      exact h.moved fun _ hk ht => stepPosition_le r.dir hk ht
    unfold drivenStep
    dsimp only
    split
    · split
      · exact declarePinch_windowLawful (s := { onWindow _ s with pinch := _ }) hstep
      · exact hstep
    · exact reversalStep_windowLawful (by simpa using hstep)
  · exact h
  · exact stepped_windowLawful _ h
  · split
    · exact stepped_windowLawful _ h
    · exact unexpectedEdge_windowLawful h

/-! ## Expiries (R103, R104, R108 to R111, R113, R115, R136) -/

@[simp] theorem windowBrakeOver_windowLawful (h : (windowView s).Lawful) : (windowView (windowBrakeOver s)).Lawful := by
  unfold windowBrakeOver
  split
  · rename_i m hm
    exact startRun_windowLawful m h (by simp [windowView, recordView, hm])
  · exact h.stopped .off

@[simp] theorem heatTick_windowLawful (h : (windowView s).Lawful) : (windowView (heatTick s)).Lawful :=
  thermalEnd_windowLawful (h.heated (Nat.min_le_left ..))

@[simp] theorem coolTick_windowLawful (h : (windowView s).Lawful) : (windowView (coolTick s)).Lawful :=
  h.heated ((Nat.sub_le ..).trans h.heat)

@[simp] theorem rampOver_windowView (s : State) : windowView (rampOver s) = windowView s := by
  simp only [windowView, rampOver, onWindow_window, onWindow_crash, recordView, Option.map_map]
  rfl

@[simp] theorem leaseOver_windowLawful (h : (windowView s).Lawful) : (windowView (leaseOver s)).Lawful :=
  endMove_windowLawful _ _ _ _ h

@[simp] theorem excursionOver_windowLawful (h : (windowView s).Lawful) : (windowView (excursionOver s)).Lawful :=
  endMove_windowLawful _ _ _ _ h

@[simp] theorem overcurrentStop_windowLawful (h : (windowView s).Lawful) : (windowView (overcurrentStop s)).Lawful := by
  simp [overcurrentStop, h]

@[simp] theorem openLoadStop_windowLawful (h : (windowView s).Lawful) : (windowView (openLoadStop s)).Lawful := by
  simp [openLoadStop, h]

@[simp] theorem expire_windowLawful (x : WindowTimer) (h : (windowView s).Lawful) : (windowView (expire x s)).Lawful := by
  cases x
  case coast | spentHold | globalSpent | counterReset => exact h
  all_goals simp [expire, h]

/-! ## The passing of time, and supply values -/

theorem windowAfter_recordView (hold : Bool) (n : Nat) (w : Window) :
    recordView hold (windowAfter n w) = recordView hold w := by
  simp only [recordView, windowAfter, Option.map_map]
  split
  · rw [Option.map_map]
    rfl
  · rfl

/-- Time that passes changes timers alone. -/
@[simp] theorem elapse_windowView (n : Nat) (s : State) : windowView (elapse n s) = windowView s := by
  have halways : windowView (alwaysAfter n (baseAfter n s)) = windowView s := by
    simp only [windowView, alwaysAfter]
    split
    · rfl
    · split
      · rfl
      · exact windowAfter_recordView ..
  rw [elapse_eq]
  unfold afterTime
  split_ifs
  · rfl
  · rfl
  · exact halways
  · exact halways

/-- The expiries within the time that a Hall step brings are events of window drive. -/
@[simp] theorem elapseTimers_windowLawful (k n : Nat) (h : (windowView s).Lawful) :
    (windowView (elapseTimers k n s)).Lawful := by
  induction k generalizing n s with
  | zero => simpa [elapseTimers] using h
  | succ k ih =>
    simp only [elapseTimers]
    repeat' split
    · exact ih _ (by simp [h])
    · simpa using h
    · simpa using h

theorem windowSupply_recordView (hold : Bool) (v : Nat) (w : Window) :
    recordView hold (windowSupply v w) = recordView hold w := by
  unfold windowSupply
  split <;> rfl

@[simp] theorem takeSample_windowView (v : Nat) (s : State) : windowView (takeSample v s) = windowView s := by
  cases hd : s.supply.discard with
  | true => rw [takeSample_of_discard v hd]; rfl
  | false =>
    rw [takeSample_of_kept v hd, keepSample]
    dsimp only
    split
    · simp only [windowView]
      split
      · exact windowSupply_recordView ..
      · rfl
    · rfl

theorem windowCurrentChange_recordView (hold : Bool) (b : CurrentBand) (w : Window) :
    recordView hold (windowCurrentChange b w) = recordView hold w := by
  rw [windowCurrentChange_eq]
  simp only [recordView]
  split
  · rw [Option.map_map]
    rfl
  · rfl

/-! ## Global moves (R132 to R138) -/

@[simp] theorem startGlobal_windowLawful (d : Dir) (h : (windowView s).Lawful) : (windowView (startGlobal d s)).Lawful := by
  have hclear : (windowView (onWindow clearHalted s)).Lawful := by simpa using h
  have hrefused : ∀ u : State, (windowView u).Lawful → (windowView (onWindow refuseGlobal u)).Lawful := fun u hu => by
    have hview : windowView (onWindow refuseGlobal u) = windowView u := by
      simp only [windowView, onWindow_window, onWindow_crash, refuseGlobal]
      split <;> rfl
    rwa [hview]
  unfold startGlobal
  dsimp only
  split
  · split
    · rename_i hp
      split
      · exact hclear
      · exact takeMove_windowLawful _ hclear (dir_ne_up_of_permitted hp)
    · exact hrefused _ hclear
  · exact hrefused _ h

@[simp] theorem renewGlobal_windowLawful (d : Dir) (h : (windowView s).Lawful) : (windowView (renewGlobal d s)).Lawful := by
  unfold renewGlobal
  split
  · have hview : windowView
        (onWindow (fun w => { w with move := w.move.map fun m => { m with lease := some tGlobalLease } }) s) =
          windowView s := by
      simp only [windowView, onWindow_window, onWindow_crash, recordView, Option.map_map]
      rfl
    rwa [hview]
  · exact endMove_windowLawful _ _ _ _ h

@[simp] theorem globalFrame_windowLawful (d : Dir) (h : (windowView s).Lawful) : (windowView (globalFrame d s)).Lawful := by
  have hcleared : (windowView (onWindow (fun w => { w with globalSpent := none }) s)).Lawful := h
  unfold globalFrame
  split
  · exact h
  · split
    · exact h
    · dsimp only
      split <;> simp [hcleared]

@[simp] theorem endGlobal_windowLawful (d : Dir) (h : (windowView s).Lawful) : (windowView (endGlobal d s)).Lawful := by
  unfold endGlobal
  split <;> simp [h]

/-! ## What reaches window drive from other blocks -/

@[simp] theorem vehicleChange_windowLawful (old : Vehicle) (h : (windowView s).Lawful) :
    (windowView (vehicleChange old s)).Lawful := by
  simp only [vehicleChange]
  split_ifs <;> simp [crankWindow, h]

@[simp] theorem takeVehicle_windowLawful (v : Byte) (i : Ignition) (h : (windowView s).Lawful) :
    (windowView (takeVehicle v i s)).Lawful := by
  simp only [takeVehicle]
  split
  · exact vehicleChange_windowLawful (s := armDriveAway (endCrashHold { s with vehicle := _ })) _ h.released
  · exact vehicleChange_windowLawful (s := { s with vehicle := _ }) _ h

@[simp] theorem takeWindowreq_windowLawful (n : Fin 8) (set : Byte) (a : WindowAction) (q : Byte)
    (h : (windowView s).Lawful) : (windowView (takeWindowreq n set a q s)).Lawful := by
  simp only [takeWindowreq, filterWindowreq]
  split_ifs <;> simp [h]

@[simp] theorem dispatchReport_windowLawful (ownLine : Bool) (r : FobReport) (h : (windowView s).Lawful) :
    (windowView (dispatchReport ownLine r s)).Lawful := by
  unfold dispatchReport
  cases r.command <;> simp [fobLockWindow, fobUnlockWindow, h] <;> split_ifs <;> simp [h]

@[simp] theorem takeReport_windowLawful (ownLine : Bool) (r : FobReport) (h : (windowView s).Lawful) :
    (windowView (takeReport ownLine r s)).Lawful := by
  simp only [takeReport]
  split_ifs
  · exact dispatchReport_windowLawful ownLine r (s := markRecord _ { s with fobs := _ }) h
  all_goals exact h

@[simp] theorem frameComplete_windowLawful (p : List Byte) (h : (windowView s).Lawful) :
    (windowView (frameComplete p s)).Lawful := by
  simp only [frameComplete]
  split <;> simp [h]

@[simp] theorem rfByte_windowLawful (v : Byte) (e : Bool) (h : (windowView s).Lawful) :
    (windowView (rfByte v e s)).Lawful := by
  unfold rfByte
  split
  · split <;> simp [h]
  · simp only [assemble]
    repeat' split
    all_goals simp [h]
  · simpa using h

/-- FORGET_WINDOW takes the knowledge of the travel away (R174). -/
@[simp] theorem applyService_windowLawful (k : Subtype) (args : List Byte) (h : (windowView s).Lawful) :
    (windowView (applyService k args s)).Lawful := by
  cases k
  case enrol => exact h
  case option =>
    simp only [applyService, applyOption]
    split <;> exact h
  case clearfault =>
    simp only [applyService, applyClearfault, placeAnswer_windowView]
    exact h
  case forgetWindow => exact h.unknown (k := .unpositioned) nofun none

@[simp] theorem takeService_windowLawful (k : Subtype) (t : Byte) (args : List Byte) (h : (windowView s).Lawful) :
    (windowView (takeService k t args s)).Lawful := by
  simp only [takeService]
  split_ifs <;> simp [h]

/-- A crash entry ends what moves, so that crash hold may stand (R90). -/
@[simp] theorem crashEntry_windowLawful (h : (windowView s).Lawful) : (windowView (crashEntry s)).Lawful := by
  have hwindow : (setCrashHold s).window = s.window := (setCrashHold_frame s).2.2.2
  refine crashEntry_eq s ▸ endMove_windowLawful_of_released _ _ _ _ ?_
  simp only [windowView, recordView, hwindow]
  exact h.released

@[simp] theorem ownCrash_windowLawful (h : (windowView s).Lawful) : (windowView (ownCrash s)).Lawful := by
  simp only [ownCrash, place_windowView]
  refine crashEntry_windowLawful ?_
  unfold takeQualified
  split <;> exact h

@[simp] theorem takeCrash_windowLawful (n : Fin 8) (x : Byte) (h : (windowView s).Lawful) :
    (windowView (takeCrash n x s)).Lawful := by
  simp only [takeCrash]
  split_ifs <;> simp [h]

/-! ## The start of a station, and reset (R95, R177, R183) -/

/-- A window record as loaded is in its ranges. -/
theorem loadWindow_travel (st : Store) (hk : (loadWindow st).knowledge = .positioned) :
    ∃ t, (loadWindow st).pTop = some t ∧ 400 ≤ t ∧ t ≤ 4000 ∧ (loadWindow st).restPosition ≤ t := by
  rw [loadWindow_eq] at hk ⊢
  split at hk
  · rename_i hload
    obtain ⟨hrange, hrest, -⟩ := (windowRecordInRange_iff _).mp hload.2
    rw [if_pos hload]
    split at hk
    · cases hk
    · rename_i hmark
      obtain ⟨t, ht, hle⟩ := hrest hk
      rw [if_neg hmark]
      exact ⟨t, ht, (hrange t ht).1, (hrange t ht).2, hle⟩
  · cases hk

/-- A window starts at rest, within its travel. -/
theorem bootWindow_windowLawful (st : Store) : (recordView false (bootWindow (loadWindow st))).Lawful := by
  refine ⟨nofun, nofun, fun hk => ?_, show 300 ≤ 1000 by decide⟩
  have hk : (loadWindow st).knowledge = .positioned := hk
  obtain ⟨t, ht, hlo, hhi, hrest⟩ := loadWindow_travel st hk
  refine ⟨t, ht, hlo, hhi, ?_⟩
  simpa [recordView, bootWindow, hk] using hrest

theorem start_windowLawful (i : PowerOnInputs) (s : State) : (windowView (start i s)).Lawful := by
  rw [start_frame]
  exact bootWindow_windowLawful (tornStore s)

theorem holdInReset_windowLawful (s : State) : (windowView (holdInReset s)).Lawful := bootWindow_windowLawful (tornStore s)

/-! ## Every command -/

/-- The outcome of a command keeps the window laws. -/
def KeepsWindowLaw (o : Host.Outcome State Fault Refusal) : Prop := ∀ t, o = .next t → (windowView t).Lawful

theorem goOn_keepsWindowLaw (h : (windowView s).Lawful) : KeepsWindowLaw (goOn s) := by
  rintro _ ⟨⟩
  exact h

/-- An event keeps the window laws where its effect does. -/
theorem event_keepsWindowLaw (c : Bool) (f : State → State) (h : (windowView s).Lawful)
    (hf : (windowView (f s)).Lawful) : KeepsWindowLaw (event c f s) := by
  cases c
  · exact goOn_keepsWindowLaw h
  · exact goOn_keepsWindowLaw (by simpa using hf)

/-- A taking keeps the window laws where its block's part does. -/
theorem taking_keepsWindowLaw (row : Instr) (f : Message → Nat → State → State) (h : (windowView s).Lawful)
    (hf : ∀ m n u, (windowView u).Lawful → (windowView (f m n u)).Lawful) : KeepsWindowLaw (taking row f s) := by
  unfold taking
  split
  · exact event_keepsWindowLaw _ _ h (hf _ _ _ (by simpa using h))
  · exact goOn_keepsWindowLaw h

/-- The owners of telegrams keep the window laws. -/
theorem owners_windowLawful (m : Message) (n : Nat) (u : State) (h : (windowView u).Lawful) :
    ∀ f ∈ [onCentral, onChild, onWindowreq, onService, onFobreport, onEvidence, onState, onVehicle,
      onPinchTelegram, onSearchTelegram, onCrash], (windowView (f m n u)).Lawful := by
  cases m <;>
    simp [onCentral, onChild, onWindowreq, onService, onFobreport, onEvidence, onState, onVehicle,
      onPinchTelegram, peerPinch, onSearchTelegram, onCrash, h]

/-- Every row under which a telegram is taken keeps the window laws. -/
theorem takenRow_keepsWindowLaw (row : Instr) (f : Message → Nat → State → State) (h : (windowView s).Lawful)
    (hf : f ∈ [onCentral, onChild, onWindowreq, onService, onFobreport, onEvidence, onState, onVehicle,
      onPinchTelegram, onSearchTelegram, onCrash]) : KeepsWindowLaw (taking row f s) :=
  taking_keepsWindowLaw row f h fun m n u hu => owners_windowLawful m n u hu f hf

/-- A row of an input acts on the station that the input change leaves, awake (R180). -/
theorem input_keepsWindowLaw (c : Bool) (f : State → State) (i : SwitchInput) (h : (windowView s).Lawful)
    (hf : (windowView (inputChange i s)).Lawful → (windowView (f s)).Lawful) : KeepsWindowLaw (event c f s) :=
  event_keepsWindowLaw c f h (hf (by simpa using h))

/-- Every command keeps the window laws. -/
theorem exec_keepsWindowLaw (c : Instr) (h : (windowView s).Lawful) : KeepsWindowLaw (exec c s) := by
  cases c <;> dsimp only [exec]
  case powerOn i => exact goOn_keepsWindowLaw (by simpa using start_windowLawful i s)
  case supplyComparatorChange b => exact goOn_keepsWindowLaw h
  case brownOut => exact event_keepsWindowLaw _ _ h (holdInReset_windowLawful s)
  case dispatchDiscard => exact taking_keepsWindowLaw _ _ h fun _ _ _ hu => hu
  case stateTaken | vehicleTaken | faultTaken | serviceackTaken | lockreqLock | lockreqDeadlock
      | lockreqUnlock | lockreqChildOn | lockreqChildOff | windowreqManualUp | windowreqManualDown
      | windowreqAutoUp | windowreqAutoDown | windowreqStop | pinchTaken | searchTaken | crashTaken
      | serviceEnrol | serviceOption | serviceClearfault | serviceForgetWindow | fobLock | fobUnlock
      | fobTailgate | fobCloseAll | fobOpenAll | fobSearchReply =>
    exact takenRow_keepsWindowLaw _ _ h (by simp)
  case motorCurrentChange motor band =>
    refine event_keepsWindowLaw _ _ h ?_
    cases motor
    · exact h
    · dsimp only
      split
      · simp only [windowView, windowCurrentChange_recordView]
        exact h
      · exact h
  case insideHandlePull pulled =>
    refine input_keepsWindowLaw _ _ .insideHandle h fun hi => ?_
    dsimp only
    split
    · rw [handlePull_windowView]
      exact hi
    · exact hi
  case centralLockButton closed | centralUnlockButton closed =>
    refine input_keepsWindowLaw _ _ .packContact h fun hi => ?_
    dsimp only
    split
    · rw [placeRequest_windowView]
      exact hi
    · exact hi
  case keyLockTurn closed =>
    refine input_keepsWindowLaw _ _ .packContact h fun hi => ?_
    dsimp only
    split
    · rw [keyLock_windowView]
      exact hi
    · exact hi
  case keyUnlockTurn closed =>
    refine input_keepsWindowLaw _ _ .packContact h fun hi => ?_
    dsimp only
    split
    · rw [placeRequest_windowView]
      exact hi
    · exact hi
  case childSwitchChange closed =>
    refine input_keepsWindowLaw _ _ .childSwitch h fun hi => ?_
    dsimp only
    split
    · exact endIf_windowLawful (s := { inputChange .childSwitch s with child := _ }) _ _ _ hi
    · exact hi
  case childButtonPress closed =>
    refine input_keepsWindowLaw _ _ .packContact h fun hi => ?_
    dsimp only
    split
    · rw [childPress_windowView]
      exact hi
    · exact hi
  case windowSwitchChange pos =>
    refine input_keepsWindowLaw _ _ .ownWindowSwitch h fun hi => ?_
    dsimp only
    split
    · exact hi
    · exact ownSwitchChange_windowLawful (s := { inputChange .ownWindowSwitch s with pins := _ }) _ hi
  case packWindowSwitchChange k pos =>
    refine input_keepsWindowLaw _ _ .packContact h fun hi => ?_
    rw [packChange_windowView]
    exact hi
  case crashLineActive | switchInputWake =>
    have hw : (windowView (wake s)).Lawful := by simpa using h
    exact event_keepsWindowLaw _ _ h hw
  case attemptStart n =>
    refine event_keepsWindowLaw _ _ h ?_
    dsimp only
    split <;> simpa using h
  case attemptEnd slots =>
    refine event_keepsWindowLaw _ _ h ?_
    dsimp only
    rw [endAttempt_windowView]
    split <;> simpa using h
  case vehicleHoldExpiry =>
    exact event_keepsWindowLaw _ _ h (vehicleChange_windowLawful (s := { s with vehicle := _ }) _ h)
  case packRefreshExpiry k =>
    refine event_keepsWindowLaw _ _ h ?_
    split <;> simpa using h
  case latchOvercurrent =>
    refine event_keepsWindowLaw _ _ h ?_
    dsimp only
    split
    · exact h
    · rw [capture_windowView]
      exact h
  case regulationLimit | latchOpenLoad =>
    refine event_keepsWindowLaw _ _ h ?_
    rw [capture_windowView]
    exact h
  case latchBrakeEnd | latchPulseLimit => exact event_keepsWindowLaw _ _ h (by simpa using h)
  case latchSwitchChange a b =>
    exact input_keepsWindowLaw _ _ .latchSwitch h fun hi => hi
  case quietTimerExpiry =>
    refine event_keepsWindowLaw _ _ h ?_
    rw [trySettle_windowView]
    exact h
  case overtravelEnd | overtravelCurrentStop | latchPauseEnd | latchSupplyWaitExpiry | regulateChopOff | chopPeriodStart
      | deadlockWindowExpiry | secondTurnExpiry | releasePulseEnd | crashLineInactive | settleExpiry | coastEnd
      | spentHoldExpiry | globalSpentHoldExpiry | reversalCounterReset => exact event_keepsWindowLaw _ _ h h
  all_goals exact event_keepsWindowLaw _ _ h (by simp [h])

/-- A step on an empty queue keeps the window laws. -/
theorem idleStep_windowLawful (h : (windowView s).Lawful) : (windowView (idleStep s)).Lawful := by
  unfold idleStep
  split
  · exact h
  · split
    · exact h
    · have hview : windowView (tickStep s) = windowView s := elapse_windowView Config.tick s
      rwa [hview]

end Sys2Proof.Machine

/-- Settles O8: what the window laws see of a station keeps them through every command, and through an idle step. -/
theorem windowLawKept : Obligations.WindowLawKept := by
  intro s t h hs
  rw [windowLaw_iff_lawful] at h ⊢
  unfold step at hs
  split at hs
  · rename_i c rest _
    exact exec_keepsWindowLaw (s := { s with pending := rest }) c h t hs
  · cases hs
    exact idleStep_windowLawful h

end

section
/-! SUPPORT. The end of a move (R103, R104, R112, R115, R140) and what the profile learns at the top (R129 to R131). -/

open Sys2Proof Sys2Proof.Machine Sys2Proof.Safety Sys2Proof.Claims

namespace Sys2Proof.Machine

/-! ## The window record after an ending (R103, R104, R112, R115, R140) -/

/-- The bridge by the manner of the ending. -/
theorem endBridge_eq (manner : Manner) (w : Window) :
    endBridge manner w =
      if (w.bridge = .drive ∧ manner ≠ .brakeStop) ∨ (w.bridge = .brake ∧ manner = .stop) then switchOff w
      else if w.bridge = .drive then brakeOn w
      else w := by
  unfold endBridge
  split <;> simp [*]

/-- The bridge has no part in the holds, the counter and the travel. -/
theorem endBridge_frame (manner : Manner) (w : Window) :
    (endBridge manner w).spentHold = w.spentHold ∧ (endBridge manner w).globalSpent = w.globalSpent ∧
      (endBridge manner w).reversals = w.reversals ∧ (endBridge manner w).reversalReset = w.reversalReset ∧
      (endBridge manner w).pTop = w.pTop := by
  rw [endBridge_eq]
  split_ifs <;> exact ⟨rfl, rfl, rfl, rfl, rfl⟩

theorem setHolds_eq (m : Move) (w : Window) :
    setHolds m w =
      { w with
        spentHold := if m.kind = .manual ∧ m.source = .pack then some ⟨m.dir, 250000⟩ else w.spentHold
        globalSpent := if m.kind = .global then some ⟨m.dir, 600000⟩ else w.globalSpent } := by
  unfold setHolds
  split
  · rename_i h
    rw [if_neg (by simp [h.1])]
    rfl
  · split <;> rfl

theorem endCounter_eq (atTop : Bool) (w : Window) :
    endCounter atTop w =
      { w with
        reversals := if atTop = true then 0 else w.reversals
        reversalReset :=
          if atTop = true then none else if 0 < w.reversals then some 0 else w.reversalReset } := by
  unfold endCounter
  split_ifs <;> rfl

theorem endMoveWindow_eq (manner : Manner) (atTop spent : Bool) (reason : StopReason) (m : Move) (w : Window) :
    endMoveWindow manner atTop spent reason m w =
      { endBridge manner w with
        move := none, stopReason := reason
        spentHold :=
          if spent = true ∧ m.kind = .manual ∧ m.source = .pack then some ⟨m.dir, 250000⟩ else w.spentHold
        globalSpent := if spent = true ∧ m.kind = .global then some ⟨m.dir, 600000⟩ else w.globalSpent
        reversals := if atTop = true then 0 else w.reversals
        reversalReset :=
          if atTop = true then none else if 0 < w.reversals then some 0 else w.reversalReset } := by
  obtain ⟨hspent, hglobal, hcount, hreset, -⟩ := endBridge_frame manner w
  rw [← hspent, ← hglobal, ← hcount, ← hreset]
  unfold endMoveWindow
  cases spent
  · simp [endCounter_eq]
  · simp [endCounter_eq, setHolds_eq]

/-! ## The bins fold into sectors (R129) -/

/-- The middle of the bin lies in the sector. -/
def foldsInto (t : Nat) (m : Pinch) (i : Fin 32) (b : Fin 64) : Bool :=
  decide (1 ≤ (m.binAcc[b]).count) && decide (64 * b.val + 32 ≤ t) &&
    decide ((64 * b.val + 32) * 32 / (t + 1) = i.val)

/-- One bin is added to the sector of its middle. -/
def foldBin (t : Nat) (m : Pinch) (v : Vector Acc 32) (b : Fin 64) : Vector Acc 32 :=
  if 1 ≤ (m.binAcc[b]).count ∧ 64 * b.val + 32 ≤ t then
    let i := capFin 31 (sectorIndex t (64 * b.val + 32))
    v.set i.val { sum := (v[i]).sum + (m.binAcc[b]).sum, count := (v[i]).count + (m.binAcc[b]).count } i.isLt
  else v

theorem foldBins_eq (t : Nat) (m : Pinch) : foldBins t m = (List.finRange 64).foldl (foldBin t m) m.sectorAcc := by
  unfold foldBins
  rw [zipIdx_toList, List.foldl_map]
  rfl

/-- A position up to the top has a sector of the table (R121). -/
theorem capFin_sectorIndex {t p : Nat} (h : p ≤ t) : (capFin 31 (sectorIndex t p)).val = p * 32 / (t + 1) := by
  have hlt : p * 32 / (t + 1) < 32 := (Nat.div_lt_iff_lt_mul (Nat.succ_pos t)).mpr (by omega)
  exact Nat.min_eq_left (Nat.le_of_lt_succ hlt)

theorem foldBin_getElem (t : Nat) (m : Pinch) (v : Vector Acc 32) (b : Fin 64) (i : Fin 32) :
    (foldBin t m v b)[i] =
      if foldsInto t m i b = true then
        { sum := (v[i]).sum + (m.binAcc[b]).sum, count := (v[i]).count + (m.binAcc[b]).count }
      else v[i] := by
  unfold foldBin
  split
  · rename_i hb
    obtain ⟨hcount, hle⟩ := hb
    have hsector := capFin_sectorIndex hle
    by_cases hi : (64 * b.val + 32) * 32 / (t + 1) = i.val
    · have hcap : capFin 31 (sectorIndex t (64 * b.val + 32)) = i := Fin.ext (hsector.trans hi)
      have hfold : foldsInto t m i b = true := by
        simp only [foldsInto, hcount, hle, hi, decide_true, Bool.and_self]
      simp [hfold, hcap]
    · have hfold : foldsInto t m i b = false := by simp only [foldsInto, hi, decide_false, Bool.and_false]
      simp [hfold, hsector, hi]
  · rename_i hb
    have hfold : foldsInto t m i b = false := by
      unfold foldsInto
      rw [← Bool.decide_and, decide_eq_false hb, Bool.false_and]
    rw [hfold, if_neg Bool.false_ne_true]

theorem foldl_foldBin_getElem (t : Nat) (m : Pinch) (i : Fin 32) (bins : List (Fin 64)) (v : Vector Acc 32) :
    (bins.foldl (foldBin t m) v)[i] =
      { sum := (v[i]).sum + ((bins.filter (foldsInto t m i)).map fun b => (m.binAcc[b]).sum).sum
        count := (v[i]).count + ((bins.filter (foldsInto t m i)).map fun b => (m.binAcc[b]).count).sum } := by
  induction bins generalizing v with
  | nil => rfl
  | cons b bins ih =>
    rw [List.foldl_cons, ih, foldBin_getElem, List.filter_cons]
    split
    · simp only [List.map_cons, List.sum_cons, Nat.add_assoc]
    · rfl

/-! ## The profile (R129 to R131) -/

/-- The accumulators that a run's mode applies. -/
def appliedAcc (t : Nat) (m : Pinch) : Vector Acc 32 :=
  match m.mode with
  | .none => Vector.replicate 32 ⟨0, 0⟩
  | .sector => m.sectorAcc
  | .bin => foldBins t m

theorem applyAcc_eq (t : Nat) (m : Pinch) :
    applyAcc t m = emptyAcc { m with profile := vzip learnSector m.profile (appliedAcc t m) } := by
  unfold applyAcc appliedAcc
  cases m.mode <;> rfl

theorem vzip_getElem {α β γ : Type} {n : Nat} (f : α → β → γ) (v : Vector α n) (w : Vector β n) (i : Fin n) :
    (vzip f v w)[i] = f v[i] w[i] := by
  simp [vzip]

theorem appliedAcc_getElem (t : Nat) (m : Pinch) (i : Fin 32) :
    (appliedAcc t m)[i] = match m.mode with
      | .none => ⟨0, 0⟩
      | .sector => m.sectorAcc[i]
      | .bin =>
        let bins := (List.finRange 64).filter (foldsInto t m i)
        { sum := (m.sectorAcc[i]).sum + (bins.map fun b => (m.binAcc[b]).sum).sum
          count := (m.sectorAcc[i]).count + (bins.map fun b => (m.binAcc[b]).count).sum } := by
  unfold appliedAcc
  cases m.mode
  · exact Vector.getElem_replicate ..
  · rfl
  · dsimp only
    rw [foldBins_eq, foldl_foldBin_getElem]

/-- The monitor at the end of a move: its accumulators are empty, and used where the move ended at the top. -/
theorem handAccumulators_pinch (atTop : Bool) (s : State) :
    (handAccumulators atTop s).pinch =
      { emptied s.pinch with
        profile :=
          if atTop = true then vzip learnSector s.pinch.profile (appliedAcc (s.window.pTop.getD 0) s.pinch)
          else s.pinch.profile } := by
  have happlied : appliedAcc (s.window.pTop.getD 0) (pinchRunStop s.pinch) =
      appliedAcc (s.window.pTop.getD 0) s.pinch := rfl
  unfold handAccumulators
  dsimp only
  cases atTop
  · rfl
  · rw [if_pos rfl, apply_ite State.pinch, markRecord_pinch, ite_self, onPinch_pinch, onPinch_pinch, applyAcc_eq,
      happlied]
    rfl

/-- A change of the profile marks the window record (R131). -/
theorem handAccumulators_eq (atTop : Bool) (s : State) :
    handAccumulators atTop s =
      { s with
        pinch := (handAccumulators atTop s).pinch
        settings :=
          if (handAccumulators atTop s).pinch.profile = s.pinch.profile then s.settings
          else (markRecord .windowRecord s).settings } := by
  cases atTop
  · exact congrArg (fun settings => { s with pinch := emptyAcc (pinchRunStop s.pinch), settings })
      (if_pos rfl).symm
  · simp only [handAccumulators, if_true]
    have hprofile : (onPinch pinchRunStop s).pinch.profile = s.pinch.profile := rfl
    rw [hprofile]
    split
    · rfl
    · rename_i hdiff
      rw [markRecord_pinch, if_neg hdiff]
      rfl

theorem learnSector_few {x : Sector} {a : Acc} (h : a.count ≤ 3) : learnSector x a = x := if_pos h

theorem learnSector_many {x : Sector} {a : Acc} (h : 4 ≤ a.count) :
    learnSector x a =
      { n :=
          if x.learn = 0 then a.sum / a.count
          else ((x.n : Int) + (((a.sum / a.count : Nat) : Int) - (x.n : Int)).tdiv 8).toNat
        learn := min 15 (x.learn + 1) } := if_neg (Nat.not_le.mpr h)

/-! ## The end of a move -/

section
variable (manner : Manner) (atTop spent : Bool) (reason : StopReason) {m : Move} {s : State}
  (hm : s.window.move = some m)
include hm

theorem endMove_window :
    (endMove manner atTop spent reason s).window = endMoveWindow manner atTop spent reason m s.window := by
  rw [endMove_of_some s manner atTop spent reason m hm, handAccumulators_eq]
  rfl

theorem endMove_pinch :
    (endMove manner atTop spent reason s).pinch =
      { emptied s.pinch with
        profile :=
          if atTop = true then vzip learnSector s.pinch.profile (appliedAcc (s.window.pTop.getD 0) s.pinch)
          else s.pinch.profile } := by
  obtain ⟨-, -, -, -, htop⟩ := endBridge_frame manner s.window
  rw [endMove_of_some s manner atTop spent reason m hm, handAccumulators_pinch, onWindow_window, onWindow_pinch,
    endMoveWindow_eq, htop]

theorem endMove_eq :
    endMove manner atTop spent reason s =
      { s with
        window := (endMove manner atTop spent reason s).window
        pinch := (endMove manner atTop spent reason s).pinch
        settings :=
          if (endMove manner atTop spent reason s).pinch.profile = s.pinch.profile then s.settings
          else (markRecord .windowRecord s).settings } := by
  rw [endMove_of_some s manner atTop spent reason m hm, handAccumulators_eq]
  rfl

end

end Sys2Proof.Machine

/-- Settles O54: the record, the monitor and the settings after an ending, sector by sector, and the learning of one. -/
theorem moveEnd : Obligations.MoveEnd := by
  refine ⟨fun manner atTop spent reason m s hm => ?_, fun x a => ⟨learnSector_few, fun h hx => ?_, fun h hx => ?_⟩⟩
  · intro w u w1 top middles learns
    have hu := endMove_eq manner atTop spent reason hm
    have hpinch := endMove_pinch manner atTop spent reason hm
    have hw1 : endBridge manner w = w1 := endBridge_eq manner w
    have hlearns (i : Fin 32) : (appliedAcc top s.pinch)[i] = learns i := appliedAcc_getElem top s.pinch i
    refine ⟨?_, ?_, ?_, fun hbelow => ?_, fun htop i => ?_, fun hsame => ?_, fun hdiff => ?_⟩
    · exact hu.trans (by rw [congrArg State.settings hu])
    · rw [endMove_window manner atTop spent reason hm, endMoveWindow_eq, hw1]
    · exact hpinch.trans (by rw [hpinch])
    · rw [hpinch, hbelow, if_neg Bool.false_ne_true]
    · rw [hpinch, if_pos htop, vzip_getElem, hlearns]
    · exact (congrArg State.settings hu).trans (if_pos hsame)
    · exact (congrArg State.settings hu).trans (if_neg hdiff)
  · rw [learnSector_many h, if_pos hx, hx]
    rfl
  · rw [learnSector_many h, if_neg hx]

end

section
/-! SUPPORT. One step at the pinch monitor (R119 to R128) and a declared pinch (R114, R126). -/

open Sys2Proof Sys2Proof.Machine Sys2Proof.Safety Sys2Proof.Claims

namespace Sys2Proof.Machine

/-! ## Accumulation (R127, R128) -/

theorem accumulate_of_none {t p n : Nat} {m : Pinch} (h : m.mode = .none) : accumulate t p n m = m := by
  simp only [accumulate, h]

theorem accumulate_of_sector {t p n : Nat} {m : Pinch} (h : m.mode = .sector) :
    accumulate t p n m = accSector t p n m := by
  simp only [accumulate, h]

theorem accumulate_of_bin {t p n : Nat} {m : Pinch} (h : m.mode = .bin) : accumulate t p n m = accBin p n m := by
  simp only [accumulate, h]

/-- Sector accumulation keeps to the sectors' accumulators. -/
theorem accSector_frame (t p n : Nat) (m : Pinch) :
    accSector t p n m = { m with sectorAcc := (accSector t p n m).sectorAcc } := by
  unfold accSector
  split <;> rfl

/-- Bin accumulation keeps to the bins' accumulators and the holding list. -/
theorem accBin_frame (p n : Nat) (m : Pinch) :
    accBin p n m = { m with binAcc := (accBin p n m).binAcc, holding := (accBin p n m).holding } := by
  unfold accBin
  split
  · rfl
  · split <;> rfl

/-- Accumulation keeps to the accumulators and the holding list. -/
theorem accumulate_frame (t p n : Nat) (m : Pinch) :
    accumulate t p n m =
      { m with
        sectorAcc := (accumulate t p n m).sectorAcc, binAcc := (accumulate t p n m).binAcc
        holding := (accumulate t p n m).holding } := by
  cases h : m.mode
  case none => rw [accumulate_of_none h, ← h]
  case sector => rw [accumulate_of_sector h, accSector_frame, ← h]
  case bin => rw [accumulate_of_bin h, accBin_frame, ← h]

theorem inEntryZone_iff (t p : Nat) : inEntryZone t p = true ↔ t - 16 < p := decide_eq_true_iff

theorem accumulate_sectorAcc_kept {t p n : Nat} {m : Pinch} (h : m.mode ≠ .sector ∨ t - 16 < p) :
    (accumulate t p n m).sectorAcc = m.sectorAcc := by
  cases hmode : m.mode
  case none => rw [accumulate_of_none hmode]
  case sector =>
    have hzone : inEntryZone t p = true :=
      (inEntryZone_iff t p).mpr (h.resolve_left fun hne => hne hmode)
    rw [accumulate_of_sector hmode, accSector, if_pos hzone]
  case bin => rw [accumulate_of_bin hmode, accBin_frame]

theorem accumulate_sectorAcc_of_sector {t p n : Nat} {m : Pinch} (hmode : m.mode = .sector) (hp : p ≤ t - 16) :
    (accumulate t p n m).sectorAcc =
      let i := capFin 31 (p * 32 / (t + 1))
      m.sectorAcc.set i.val { sum := (m.sectorAcc[i]).sum + n, count := (m.sectorAcc[i]).count + 1 } i.isLt := by
  have hzone : ¬ inEntryZone t p = true := by
    rw [inEntryZone_iff]
    exact Nat.not_lt.mpr hp
  rw [accumulate_of_sector hmode, accSector, if_neg hzone]
  rfl

theorem accumulate_bins_kept {t p n : Nat} {m : Pinch} (hmode : m.mode ≠ .bin) :
    (accumulate t p n m).binAcc = m.binAcc ∧ (accumulate t p n m).holding = m.holding := by
  cases h : m.mode
  case none =>
    rw [accumulate_of_none h]
    exact ⟨rfl, rfl⟩
  case sector =>
    rw [accumulate_of_sector h, accSector_frame]
    exact ⟨rfl, rfl⟩
  case bin => exact absurd h hmode

theorem accumulate_bins_held {t p n : Nat} {m : Pinch} (hmode : m.mode = .bin) (hlen : m.holding.length < 16) :
    (accumulate t p n m).binAcc = m.binAcc ∧
      (accumulate t p n m).holding = m.holding ++ [(capFin 63 (p / 64), n)] := by
  rw [accumulate_of_bin hmode, accBin]
  split
  · rename_i hnil
    rw [hnil]
    exact ⟨rfl, rfl⟩
  · rw [if_neg (Nat.not_le.mpr hlen)]
    exact ⟨rfl, rfl⟩

theorem accumulate_bins_full {t p n : Nat} {m : Pinch} {b : Fin 64} {n0 : Nat} {rest : List (Fin 64 × Nat)}
    (hmode : m.mode = .bin) (hhold : m.holding = (b, n0) :: rest) (hlen : 15 ≤ rest.length) :
    (accumulate t p n m).binAcc =
        m.binAcc.set b.val { sum := (m.binAcc[b]).sum + n0, count := (m.binAcc[b]).count + 1 } b.isLt ∧
      (accumulate t p n m).holding = rest ++ [(capFin 63 (p / 64), n)] := by
  have hfull : 16 ≤ ((b, n0) :: rest).length := Nat.succ_le_succ hlen
  rw [accumulate_of_bin hmode]
  simp only [accBin, hhold, if_pos hfull, Acc.add, and_self]

/-! ## The step (R118 to R124) -/

/-- The filtered period after a step (R119). -/
def filteredAfter (m : Pinch) : Nat := filterPeriod m.filtered (stepPeriod m.counter)

/-- Blanking goes on over the step (R120). -/
def StaysBlanked (x : StepReads) (m : Pinch) : Prop :=
  m.blanking = true ∧ (m.stepCount + 1 ≤ 24 ∨ x.ramp < 400)

/-- The fallback values at an unblanked step (R120). -/
def fallbackAfter (x : StepReads) (m : Pinch) : Fallback :=
  if m.blanking = true then { period := filteredAfter m, supply := x.supply }
  else m.fallback.getD { period := filteredAfter m, supply := x.supply }

/-- The pinch count that an unblanked step reaches (R124): 3 declares a pinch. -/
def countAfter (x : StepReads) (m : Pinch) : Nat := pinchCount x (filteredAfter m) (fallbackAfter x m) m

/-- The monitor at an unblanked step, before it accumulates. -/
def unblankedStep (x : StepReads) (m : Pinch) : Pinch :=
  { m with
    counter := some 0, filtered := some (filteredAfter m), stepCount := min 25 (m.stepCount + 1)
    blanking := false, fallback := some (fallbackAfter x m)
    count := if 3 ≤ countAfter x m then 0 else countAfter x m }

theorem staysBlanked_iff (x : StepReads) (m : Pinch) :
    (m.blanking && (decide (min 25 (m.stepCount + 1) ≤ 24) || decide (x.ramp < 400))) = true ↔
      StaysBlanked x m := by
  have hsteps : min 25 (m.stepCount + 1) ≤ 24 ↔ m.stepCount + 1 ≤ 24 := by omega
  simp only [StaysBlanked, Bool.and_eq_true, Bool.or_eq_true, decide_eq_true_eq, hsteps]

theorem pinchUpStep_of_blanked {x : StepReads} {m : Pinch} (h : StaysBlanked x m) :
    pinchUpStep x m =
      ({ m with counter := some 0, filtered := some (filteredAfter m), stepCount := min 25 (m.stepCount + 1) },
        false) :=
  if_pos ((staysBlanked_iff x m).mpr h)

theorem pinchUpStep_of_unblanked {x : StepReads} {m : Pinch} (h : ¬ StaysBlanked x m) :
    pinchUpStep x m =
      (accumulate x.pTop x.p (normalised (filteredAfter m) x.supply) (unblankedStep x m),
        decide (3 ≤ countAfter x m)) :=
  if_neg fun hb => h ((staysBlanked_iff x m).mp hb)

/-- The monitor tests a step in the pinch zone of a POSITIONED window without override (R124). -/
def PinchTested (x : StepReads) : Prop :=
  x.knowledge = .positioned ∧ inPinchZone x.pTop x.p = true ∧ x.override = false

/-- The period that the profile, or the fallback, expects at a step (R122). -/
def expectedAfter (x : StepReads) (m : Pinch) : Nat :=
  expectedPeriod (m.profile[capFin 31 (sectorIndex x.pTop x.p)]) (fallbackAfter x m) x.supply

theorem countAfter_of_untested {x : StepReads} {m : Pinch} (h : ¬ PinchTested x) : countAfter x m = 0 := if_neg h

theorem countAfter_of_slow {x : StepReads} {m : Pinch} (h : PinchTested x)
    (hs : x.sTh ≤ slowdown (filteredAfter m) (expectedAfter x m)) : countAfter x m = m.count + 1 :=
  (if_pos h).trans (if_pos hs)

theorem countAfter_of_fast {x : StepReads} {m : Pinch} (h : PinchTested x)
    (hs : slowdown (filteredAfter m) (expectedAfter x m) < x.sTh) : countAfter x m = 0 :=
  (if_pos h).trans (if_neg (Nat.not_le.mpr hs))

theorem inPinchZone_iff (t p : Nat) :
    inPinchZone t p = true ↔ (if t < 816 then 0 else t - 800) ≤ p ∧ p + 16 ≤ t := by
  simp only [inPinchZone, Bool.and_eq_true, decide_eq_true_eq]

/-! ## A declared pinch (R114, R126) and the reversal's end -/

/-- The window at a declared pinch: the brake and the reversal with its stop step. -/
theorem declarePinch_window_eq (m : Move) (w : Window) :
    { (if m.kind = .manual ∧ m.source = .pack then setHolds m (brakeOn w) else brakeOn w) with
      move := some
        { kind := .reversal, dir := .down, source := .pinch, lease := none, target := .step (w.p - 200) }
      stopReason := .none, reversals := min 3 (w.reversals + 1), reversalReset := none } =
    { w with
      bridge := .brake, brakeTimer := 0, run := none, excursion := none
      move := some
        { kind := .reversal, dir := .down, source := .pinch, lease := none, target := .step (w.p - 200) }
      stopReason := .none, reversals := min 3 (w.reversals + 1), reversalReset := none
      spentHold := if m.kind = .manual ∧ m.source = .pack then some ⟨m.dir, 250000⟩ else w.spentHold } := by
  by_cases hpack : m.kind = .manual ∧ m.source = .pack
  · rw [if_pos hpack, if_pos hpack, setHolds, if_pos hpack]
    rfl
  · rw [if_neg hpack, if_neg hpack]
    rfl

theorem declarePinch_of_some {s : State} {m : Move} (hm : s.window.move = some m) :
    declarePinch s =
      (place (ownTelegram s kPinch [moveKindCode m.kind, windowPercent s.window])
        { s with
          window :=
            { s.window with
              bridge := .brake, brakeTimer := 0, run := none, excursion := none
              move := some
                { kind := .reversal, dir := .down, source := .pinch, lease := none
                  target := .step (s.window.p - 200) }
              stopReason := .none, reversals := min 3 (s.window.reversals + 1), reversalReset := none
              spentHold :=
                if m.kind = .manual ∧ m.source = .pack then some ⟨m.dir, 250000⟩ else s.window.spentHold }
          pinch := emptied s.pinch }).1 := by
  rw [← declarePinch_window_eq, declarePinch, hm]
  rfl

theorem reversalStep_of_arrived {s : State} {m : Move} {q : Nat} (hm : s.window.move = some m)
    (hkind : m.kind = .reversal) (htarget : m.target = .step q) (hp : s.window.p ≤ q) :
    reversalStep s = endMove .stop false false .none s := by
  simp only [reversalStep, hm, hkind, htarget, if_pos hp]

/-- Before its stop step the reversal goes on, and no other move has one. -/
theorem reversalStep_of_above {s : State}
    (h : ∀ m q, s.window.move = some m → m.kind = .reversal → m.target = .step q → q < s.window.p) :
    reversalStep s = s := by
  unfold reversalStep
  split
  · rename_i m hm
    split
    · rename_i q hkind htarget
      exact if_neg (Nat.not_le.mpr (h m q hm hkind htarget))
    · rfl
  · rfl

end Sys2Proof.Machine

/-- Settles O56: a blanked step, an unblanked one with its test and accumulation, a declared pinch and the
reversal's end. -/
theorem pinchStep : Obligations.PinchStep := by
  refine ⟨fun x m => ?_, fun f e => rfl, fun s m hm => declarePinch_of_some hm, fun s =>
    ⟨fun m q hm hkind htarget hp => reversalStep_of_arrived hm hkind htarget hp, reversalStep_of_above⟩⟩
  intro T F u blanked fb sector E tested norm
  have hF : filteredAfter m = F := by
    change filterPeriod m.filtered T = F
    simp only [F]
    cases m.filtered <;> rfl
  have hfb : fallbackAfter x m = fb := by rw [fallbackAfter, hF]
  have hE : expectedAfter x m = E := by
    rw [expectedAfter, hfb]
    rfl
  have htested : tested ↔ PinchTested x := by
    rw [PinchTested, inPinchZone_iff]
  by_cases hblank : blanked
  · have hu : u =
        ({ m with counter := some 0, filtered := some F, stepCount := min 25 (m.stepCount + 1) }, false) := by
      rw [← hF]
      exact pinchUpStep_of_blanked hblank
    refine ⟨?_, ?_, ?_, ?_, ?_, fun _ => ⟨?_, ?_, ?_, ?_, ?_, ?_, ?_⟩, fun h => absurd hblank h⟩ <;> rw [hu]
    exact hblank.1
  · have hu : u = (accumulate x.pTop x.p norm (unblankedStep x m), decide (3 ≤ countAfter x m)) := by
      have hnorm : normalised F x.supply = norm := rfl
      rw [← hnorm, ← hF]
      exact pinchUpStep_of_unblanked hblank
    have hfirst : u.1 =
        let acc := accumulate x.pTop x.p norm (unblankedStep x m)
        { unblankedStep x m with sectorAcc := acc.sectorAcc, binAcc := acc.binAcc, holding := acc.holding } :=
      (congrArg Prod.fst hu).trans (accumulate_frame ..)
    have hslow (ht : tested) (hs : x.sTh ≤ slowdown F E) : countAfter x m = m.count + 1 :=
      countAfter_of_slow (htested.mp ht) (by rwa [hF, hE])
    have hfast (ht : tested) (hs : slowdown F E < x.sTh) : countAfter x m = 0 :=
      countAfter_of_fast (htested.mp ht) (by rwa [hF, hE])
    have hdeclared : u.2 = decide (3 ≤ countAfter x m) := congrArg Prod.snd hu
    have hcount : u.1.count = if 3 ≤ countAfter x m then 0 else countAfter x m := by rw [hfirst]; rfl
    refine ⟨?_, ?_, ?_, ?_, ?_, fun h => absurd h hblank, fun _ => ⟨?_, ?_, fun ht hs hc => ?_, fun ht hs hc => ?_,
      fun ht hs => ?_, fun ht => ?_, fun h => ?_, fun hmode hp => ?_, fun hmode => ?_, fun hmode hlen => ?_,
      fun b n0 rest hmode hhold hlen => ?_⟩⟩
    · rw [hfirst, ← hF]; rfl
    · rw [hfirst]; rfl
    · rw [hfirst]; rfl
    · rw [hfirst]; rfl
    · rw [hfirst]; rfl
    · rw [hfirst]; rfl
    · rw [hfirst, ← hfb]; rfl
    · rw [hdeclared, hcount, hslow ht hs]
      exact ⟨decide_eq_false (by omega), if_neg (by omega)⟩
    · rw [hdeclared, hcount, hslow ht hs]
      exact ⟨decide_eq_true (by omega), if_pos (by omega)⟩
    · rw [hdeclared, hcount, hfast ht hs]
      exact ⟨rfl, rfl⟩
    · rw [hdeclared, hcount, countAfter_of_untested fun h => ht (htested.mpr h)]
      exact ⟨rfl, rfl⟩
    · rw [hu]; exact accumulate_sectorAcc_kept h
    · rw [hu]; exact accumulate_sectorAcc_of_sector hmode hp
    · rw [hu]; exact accumulate_bins_kept hmode
    · rw [hu]; exact accumulate_bins_held hmode hlen
    · rw [hu]; exact accumulate_bins_full hmode hhold hlen

end

section
/-! SUPPORT. The rows of window drive's timers (R96, R98, R103, R104, R108 to R111, R113, R115, R136, R140). -/

open Sys2Proof Sys2Proof.Machine Sys2Proof.Safety Sys2Proof.Claims

namespace Sys2Proof.Machine

/-! ## What an expiry does -/

theorem endMove_power (manner : Manner) (atTop spent : Bool) (reason : StopReason) (s : State) :
    (endMove manner atTop spent reason s).power = s.power := by
  cases hm : s.window.move
  case none => rw [endMove_of_none _ _ _ _ _ hm]
  case some m => rw [endMove_eq manner atTop spent reason hm]

theorem thermalEnd_of_full {s : State} (hheat : s.window.heat = 1000) (hdrive : s.window.bridge = .drive) :
    thermalEnd s = endMove .stop false true .none s := if_pos ⟨hheat, hdrive⟩

section
variable {s : State}

theorem heatTick_of_full (hdrive : s.window.bridge = .drive) (hheat : 1000 ≤ s.window.heat + 3) :
    heatTick s =
      endMove .stop false true .none
        { s with window :=
          { s.window with heat := min 1000 (s.window.heat + 3), onTime := s.window.onTime - 100000 } } :=
  thermalEnd_of_full (Nat.min_eq_left hheat) hdrive

theorem heatTick_of_not_full (h : s.window.heat + 3 < 1000 ∨ s.window.bridge ≠ .drive) :
    heatTick s =
      { s with window :=
        { s.window with heat := min 1000 (s.window.heat + 3), onTime := s.window.onTime - 100000 } } := by
  refine thermalEnd_of_not _ fun ⟨hfull, hdrive⟩ => ?_
  have hheat : min 1000 (s.window.heat + 3) = 1000 := hfull
  rcases h with hlow | hoff
  · omega
  · exact hoff hdrive

theorem overcurrentStop_of_awake (hawake : s.power.asleep = false) :
    overcurrentStop s =
      captureAwake .windowOvercurrent (dirByte s.window.move) (kindByte s.window.move) (windowPercent s.window)
        (endMove .stop false true .halted s) :=
  capture_of_awake _ _ _ _ _ (by rw [endMove_power, hawake])

theorem openLoadStop_of_awake (hawake : s.power.asleep = false) :
    openLoadStop s =
      captureAwake .windowOpenLoad (dirByte s.window.move) (kindByte s.window.move) 0
        (endMove .stop false true .none s) :=
  capture_of_awake _ _ _ _ _ (by rw [endMove_power, hawake])

end

/-! ## The rows -/

section
variable {s : State} (hwin : hasWindow s = true)
include hwin

theorem exec_thermalCoolTick (h : s.window.bridge ≠ .drive) :
    exec .thermalCoolTick s = .next (conclude (coolTick s)) :=
  exec_of_event rfl (by simp [hwin, h]) rfl

theorem exec_reversalCounterReset (h : s.window.reversalReset ≠ none) :
    exec .reversalCounterReset s = .next (conclude (counterOver s)) :=
  exec_of_event rfl (by simp [hwin, Option.isSome_iff_ne_none, h]) rfl

variable (hact : active s = true)
include hact

theorem exec_packLeaseExpiry {m : Move} (hm : s.window.move = some m) (hkind : m.kind = .manual)
    (hsource : m.source = .pack) : exec .packLeaseExpiry s = .next (conclude (leaseOver s)) :=
  exec_of_event rfl (by simp [hwin, hact, hm, hkind, hsource]) rfl

theorem exec_globalLeaseExpiry {m : Move} (hm : s.window.move = some m) (hkind : m.kind = .global) :
    exec .globalLeaseExpiry s = .next (conclude (leaseOver s)) :=
  exec_of_event rfl (by simp [hwin, hact, globalRunning, hm, hkind]) rfl

theorem exec_spentHoldExpiry (h : s.window.spentHold ≠ none) :
    exec .spentHoldExpiry s = .next (conclude (spentHoldOver s)) :=
  exec_of_event rfl (by simp [hwin, hact, Option.isSome_iff_ne_none, h]) rfl

theorem exec_globalSpentHoldExpiry (h : s.window.globalSpent ≠ none) :
    exec .globalSpentHoldExpiry s = .next (conclude (globalSpentOver s)) :=
  exec_of_event rfl (by simp [hwin, hact, Option.isSome_iff_ne_none, h]) rfl

theorem exec_coastEnd (h : s.window.coast ≠ none) : exec .coastEnd s = .next (conclude (coastOver s)) :=
  exec_of_event rfl (by simp [hwin, hact, Option.isSome_iff_ne_none, h]) rfl

theorem exec_windowBrakeEnd (h : s.window.bridge = .brake) :
    exec .windowBrakeEnd s = .next (conclude (windowBrakeOver s)) :=
  exec_of_event rfl (by simp [hwin, hact, h]) rfl

theorem exec_rampStep (h : s.window.bridge = .drive) : exec .rampStep s = .next (conclude (rampOver s)) :=
  exec_of_event rfl (by simp [hwin, hact, h]) rfl

theorem exec_supplyExcursion (h : s.window.bridge = .drive) (hout : s.window.excursion ≠ none) :
    exec .supplyExcursion s = .next (conclude (excursionOver s)) :=
  exec_of_event rfl (by simp [hwin, hact, h, Option.isSome_iff_ne_none, hout]) rfl

theorem exec_windowOvercurrent (h : s.window.bridge = .drive) :
    exec .windowOvercurrent s = .next (conclude (overcurrentStop s)) :=
  exec_of_event rfl (by simp [hwin, hact, h]) rfl

theorem exec_windowOpenLoad {r : Run} (h : s.window.bridge = .drive) (hr : s.window.run = some r)
    (hload : r.openLoad ≠ none) : exec .windowOpenLoad s = .next (conclude (openLoadStop s)) :=
  exec_of_event rfl (by simp [hwin, hact, h, hr, Option.isSome_iff_ne_none, hload]) rfl

theorem exec_thermalHeatTick (h : s.window.bridge = .drive ∨ 100000 ≤ s.window.onTime) :
    exec .thermalHeatTick s = .next (conclude (heatTick s)) :=
  exec_of_event rfl
    (by simp only [hwin, hact, Bool.true_and, Bool.or_eq_true, beq_iff_eq, decide_eq_true_eq]; exact h) rfl

end

end Sys2Proof.Machine

/-- Settles O53: every row is the event of its timer. -/
theorem windowTimerRows : Obligations.WindowTimerRows := by
  intro s hwin w dirCode kindCode
  refine ⟨exec_thermalCoolTick hwin, exec_reversalCounterReset hwin, fun hact => ⟨
    fun m => exec_packLeaseExpiry hwin hact, fun m => exec_globalLeaseExpiry hwin hact,
    exec_spentHoldExpiry hwin hact, exec_globalSpentHoldExpiry hwin hact,
    fun hdrive => ⟨exec_supplyExcursion hwin hact hdrive, ?_, fun r e hr hload => ?_⟩, ?_⟩⟩
  · obtain ⟨-, hawake⟩ := (active_iff_operating s).mp hact
    rw [exec_windowOvercurrent hwin hact hdrive, overcurrentStop_of_awake hawake]
    rfl
  · obtain ⟨-, hawake⟩ := (active_iff_operating s).mp hact
    have hruns : r.openLoad ≠ none := Option.ne_none_iff_exists'.mpr ⟨e, hload⟩
    rw [exec_windowOpenLoad hwin hact hdrive hr hruns, openLoadStop_of_awake hawake]
    rfl
  · refine ⟨fun hticks hlow => ?_, fun hdrive hfull => ?_, fun hoff hshort => ?_⟩
    · rw [exec_thermalHeatTick hwin hact hticks, heatTick_of_not_full hlow]
    · rw [exec_thermalHeatTick hwin hact (.inl hdrive), heatTick_of_full hdrive hfull]
    · refine event_of_false s heatTick ?_
      have hticks : ¬ (w.bridge = .drive ∨ tHeat ≤ w.onTime) := not_or.mpr ⟨hoff, Nat.not_le.mpr hshort⟩
      simpa using fun _ _ => not_or.mp hticks

end

section
/-! SUPPORT. The motion of the window: the bridge, the expiries within a step, Hall edges, runs and stalls (R96 to
R99, R104, R109, R112, R113, R117, R125). -/

open Sys2Proof Sys2Proof.Machine Sys2Proof.Safety Sys2Proof.Claims

namespace Sys2Proof.Machine

/-! ## The bridge (R109) -/

theorem windowBridge_of_drive {w : Window} {r : Run} (hb : w.bridge = .drive) (hr : w.run = some r) :
    windowBridge w = .drive r.dir (windowDuty w) := by simp only [windowBridge, hb, hr]

theorem windowDuty_of_entry {w : Window} {r : Run} {t : Nat} (hb : w.bridge = .drive) (hr : w.run = some r)
    (hdir : r.dir = .up) (hk : w.knowledge = .positioned) (ht : w.pTop = some t) (hp : t - 16 < w.p) :
    windowDuty w = min r.ramp 280 := by
  simp only [windowDuty, hb, hr, hdir, hk, ht, if_pos ((inEntryZone_iff t w.p).mpr hp)]

theorem windowDuty_of_not_entry {w : Window} {r : Run} (hb : w.bridge = .drive) (hr : w.run = some r)
    (h : r.dir = .down ∨ w.knowledge ≠ .positioned ∨ ∀ t, w.pTop = some t → w.p ≤ t - 16) :
    windowDuty w = r.ramp := by
  simp only [windowDuty, hb, hr]
  split
  · rename_i t hdir hk ht
    have hp : w.p ≤ t - 16 := by
      rcases h with hdown | hunknown | hlow
      · exact absurd (hdir.symm.trans hdown) Dir.noConfusion
      · exact absurd hk hunknown
      · exact hlow t ht
    rw [if_neg (by rw [inEntryZone_iff]; exact Nat.not_lt.mpr hp)]
  · rfl

/-! ## The expiries within a step (R98, R125) -/

theorem leftOf_eq (runs : Bool) (limit n : Nat) :
    leftOf runs limit n = if runs = true then some (limit - n) else if limit ≤ n then some 0 else none := by
  unfold leftOf
  cases runs
  · by_cases h : limit ≤ n <;> simp [h]
  · rfl

/-- Cooling and the counter reset are the timers that run in SLEEP (R113, R115). -/
theorem runsAsleep_iff (x : WindowTimer) : x.runsAsleep = true ↔ x = .cool ∨ x = .counterReset := by
  cases x <;> decide

/-- What remains of a timer, in the words of its rule. -/
theorem untilTimer_eq (s : State) (x : WindowTimer) : untilTimer s x = leftFor s x := by
  have hcond : (hasWindow s && (!s.power.asleep || x.runsAsleep)) = true ↔
      hasWindow s = true ∧ (s.power.asleep = false ∨ x = .cool ∨ x = .counterReset) := by
    rw [← runsAsleep_iff, Bool.and_eq_true, Bool.or_eq_true, Bool.not_eq_true']
  unfold untilTimer leftFor
  simp only [hcond]
  congr 1
  cases x
  case heat => simp only [timerLeft, leftOf_eq, beq_iff_eq]; rfl
  case overcurrent => simp only [timerLeft, leftOf_eq, beq_iff_eq]; rfl
  case openLoad => simp only [timerLeft, leftOf_eq, beq_iff_eq]; rfl
  case lease =>
    cases hm : s.window.move
    case none => simp [timerLeft, globalRunning, hm]
    case some m => simp [timerLeft, globalRunning, hm]
  case globalLease =>
    cases hm : s.window.move
    case none => simp [timerLeft, globalRunning, hm]
    case some m => simp [timerLeft, globalRunning, hm]
  all_goals rfl

/-- The first timer to expire, and of those that expire together the first of the list, is taken. -/
theorem firstTimer_of_first {left : WindowTimer → Option Nat} {xs : List WindowTimer} {x : WindowTimer} {t : Nat}
    (hx : x ∈ xs) (ht : left x = some t)
    (hfirst : ∀ y ∈ xs, ∀ u, left y = some u → t < u ∨ (t = u ∧ xs.idxOf x ≤ xs.idxOf y)) :
    firstTimer left xs = some (x, t) := by
  induction xs with
  | nil => cases hx
  | cons a as ih =>
    by_cases ha : a = x
    · subst ha
      cases hrest : firstTimer left as
      case none => simp only [firstTimer, ht, hrest]
      case some r =>
        obtain ⟨hmem, hleft, -⟩ := firstTimer_some left as r.1 r.2 hrest
        have hle : t ≤ r.2 := by
          rcases hfirst r.1 (.tail _ hmem) r.2 hleft with hlt | ⟨heq, -⟩
          · exact Nat.le_of_lt hlt
          · exact Nat.le_of_eq heq
        simp only [firstTimer, ht, hrest, if_pos hle]
    · have hpos : (a :: as).idxOf x = as.idxOf x + 1 := List.idxOf_cons_ne as ha
      have hrest : firstTimer left as = some (x, t) := by
        refine ih ((List.mem_cons.mp hx).resolve_left (Ne.symm ha)) fun y hy u hu => ?_
        refine (hfirst y (.tail _ hy) u hu).imp_right fun ⟨heq, hle⟩ => ⟨heq, ?_⟩
        by_cases hya : a = y
        · rw [hya, List.idxOf_cons_self, ← hya, hpos] at hle
          omega
        · rw [hpos, List.idxOf_cons_ne as hya] at hle
          omega
      cases hleft : left a
      case none => simp only [firstTimer, hleft, hrest]
      case some u =>
        have hlt : t < u := by
          rcases hfirst a (.head _) u hleft with hlt | ⟨-, hle⟩
          · exact hlt
          · rw [hpos, List.idxOf_cons_self] at hle
            omega
        simp only [firstTimer, hleft, hrest, if_neg (Nat.not_le.mpr hlt)]

theorem firstTimer_of_firstToExpire {s : State} {x : WindowTimer} {t : Nat} (h : firstToExpire s x t) :
    firstTimer (untilTimer s) windowTimers = some (x, t) := by
  obtain ⟨hleft, hfirst⟩ := h
  refine firstTimer_of_first (mem_windowTimers x) (by rw [untilTimer_eq, hleft]) fun y _ u hu => ?_
  rw [untilTimer_eq] at hu
  exact hfirst y u hu

theorem ne_none_of_stands {limit : Nat} {t : Option Nat} (h : stands limit t) : t ≠ none := by
  obtain ⟨x, rfl, -⟩ := h
  exact Option.some_ne_none x

/-- A timer that stands at its limit expires by its row; of a lease the row asks that a PACK MANUAL move holds it. -/
theorem exec_commandOf {s : State} {x : WindowTimer} (hleft : leftFor s x = some 0)
    (hlease : x = .lease → ∃ m, s.window.move = some m ∧ m.kind = .manual ∧ m.source = .pack) :
    exec (commandOf x) s = .next (conclude (expire x s)) := by
  have huntil : untilTimer s x = some 0 := (untilTimer_eq s x).trans hleft
  obtain ⟨hcond, htimer⟩ := Option.ite_none_right_eq_some.mp huntil
  have hexp : expired s.window x := (timerLeft_eq_zero s.window x).mp htimer
  obtain ⟨hwin, hruns⟩ := (Bool.and_eq_true ..).mp hcond
  have hact (hx : x.runsAsleep = false) : active s = true :=
    (active_iff_operating s).mpr ⟨operating_of_hasWindow hwin, by simpa [hx] using hruns⟩
  cases x
  case heat => exact exec_thermalHeatTick hwin (hact rfl) (.inr hexp)
  case stall => exact exec_of_event rfl (by rw [hact rfl, huntil]; rfl) rfl
  case coast => exact exec_coastEnd hwin (hact rfl) (ne_none_of_stands hexp)
  case lease =>
    obtain ⟨m, hm, hkind, hsource⟩ := hlease rfl
    exact exec_packLeaseExpiry hwin (hact rfl) hm hkind hsource
  case globalLease =>
    obtain ⟨m, hm, hkind, -⟩ := hexp
    exact exec_globalLeaseExpiry hwin (hact rfl) hm hkind
  case spentHold =>
    exact exec_spentHoldExpiry hwin (hact rfl) fun hnone => by simp [expired, hnone, spent] at hexp
  case globalSpent =>
    exact exec_globalSpentHoldExpiry hwin (hact rfl) fun hnone => by simp [expired, hnone, spent] at hexp
  case brake =>
    obtain ⟨hbrake, -⟩ := hexp
    exact exec_windowBrakeEnd hwin (hact rfl) hbrake
  case ramp =>
    obtain ⟨hdrive, -⟩ := hexp
    exact exec_rampStep hwin (hact rfl) hdrive
  case excursion =>
    obtain ⟨hdrive, hout⟩ := hexp
    exact exec_supplyExcursion hwin (hact rfl) hdrive (ne_none_of_stands hout)
  case overcurrent =>
    obtain ⟨hdrive, -⟩ := hexp
    exact exec_windowOvercurrent hwin (hact rfl) hdrive
  case openLoad =>
    obtain ⟨hdrive, r, hr, hload⟩ := hexp
    exact exec_windowOpenLoad hwin (hact rfl) hdrive hr (ne_none_of_stands hload)
  case cool =>
    obtain ⟨hoff, -⟩ := hexp
    exact exec_thermalCoolTick hwin hoff
  case counterReset => exact exec_reversalCounterReset hwin (ne_none_of_stands hexp)

/-- What remains until a run stalls: 150 ms without a step (R98). -/
theorem untilTimer_stall {s : State} {r : Run} (hwin : hasWindow s = true) (hact : active s = true)
    (hb : s.window.bridge = .drive) (hr : s.window.run = some r) :
    untilTimer s .stall = some (150000 - r.stall) := by
  obtain ⟨-, hawake⟩ := (active_iff_operating s).mp hact
  rw [untilTimer_eq, leftFor, if_pos ⟨hwin, .inl hawake⟩]
  simp only [if_pos hb, hr, Option.map_some]

theorem exec_windowStall {s : State} {r : Run} (hwin : hasWindow s = true) (hact : active s = true)
    (hb : s.window.bridge = .drive) (hr : s.window.run = some r) (hstall : 150000 ≤ r.stall) :
    exec .windowStall s = .next (conclude (stalled s)) := by
  have huntil := untilTimer_stall hwin hact hb hr
  rw [Nat.sub_eq_zero_of_le hstall] at huntil
  exact exec_of_event rfl (by rw [hact, huntil]; rfl) rfl

theorem exec_windowStall_early {s : State} {r : Run} (hwin : hasWindow s = true) (hact : active s = true)
    (hb : s.window.bridge = .drive) (hr : s.window.run = some r) (hstall : r.stall < 150000) :
    exec .windowStall s = .next s := by
  refine event_of_false s stalled ?_
  rw [untilTimer_stall hwin hact hb hr, hact, Bool.true_and, beq_eq_false_iff_ne, ne_eq, Option.some.injEq]
  omega

theorem exec_hallStep {s : State} (n : Nat) (hwin : hasWindow s = true) :
    exec (.hallStep n) s = .next (conclude (hallEdge (elapseTimers (32 + n / 2000000) n s))) :=
  event_of_true s (fun s => hallEdge (elapseTimers (expiriesWithin n) n s)) hwin

theorem rampOver_of_run {s : State} {r : Run} (hr : s.window.run = some r) :
    rampOver s =
      { s with window :=
        { s.window with run := some { r with ramp := min 400 (r.ramp + 40), rampTimer := r.rampTimer - 10000 } } } := by
  simp only [rampOver, onWindow, hr]
  rfl

theorem windowBrakeOver_of_none {s : State} (h : s.window.move = none) :
    windowBrakeOver s = onWindow switchOff s := by
  simp only [windowBrakeOver, h]

theorem windowBrakeOver_of_some {s : State} {m : Move} (h : s.window.move = some m) :
    windowBrakeOver s = startRun m s := by
  simp only [windowBrakeOver, h]

/-! ## Hall edges (R96, R97, R118, R119) -/

theorem stepPosition_eq (d : Dir) (w : Window) :
    stepPosition d w =
      min (if w.knowledge = .positioned then w.pTop.getD 4095 else 4095)
        (match d with | .up => w.p + 1 | .down => w.p - 1) := by
  refine congrArg₂ min ?_ (by cases d <;> rfl)
  cases hk : w.knowledge
  case positioned => cases w.pTop <;> rfl
  all_goals simp

theorem hallEdge_of_brake {s : State} (h : s.window.bridge = .brake) :
    hallEdge s = onWindow (fun w => { w with p := stepPosition w.lastDir w }) s := by
  simp only [hallEdge, h]

theorem hallEdge_of_coast {s : State} (h : s.window.bridge = .off) (hc : s.window.coast ≠ none) :
    hallEdge s = onWindow (fun w => { w with p := stepPosition w.lastDir w }) s := by
  simp only [hallEdge, h, if_pos (Option.isSome_iff_ne_none.mpr hc)]

theorem hallEdge_of_rest {s : State} (h : s.window.bridge = .off) (hc : s.window.coast = none) :
    hallEdge s = unexpectedEdge s := by
  simp [hallEdge, h, hc]

theorem hallEdge_of_drive {s : State} {r : Run} (h : s.window.bridge = .drive) (hr : s.window.run = some r) :
    hallEdge s = drivenStep r s := by
  simp only [hallEdge, h, hr]

/-- The window after a step of a run, its stall timer restarted (R96, R98). -/
def steppedRun (r : Run) (s : State) : State :=
  { s with window := { s.window with p := stepPosition r.dir s.window, run := some { r with stall := 0 } } }

theorem drivenStep_of_down {s : State} {r : Run} (h : r.dir = .down) :
    drivenStep r s = reversalStep { steppedRun r s with pinch := { s.pinch with counter := some 0 } } := by
  simp only [drivenStep, h, steppedRun]
  rfl

theorem drivenStep_of_up {s : State} {r : Run} (h : r.dir = .up) :
    drivenStep r s =
      let u := pinchUpStep (stepReads r (steppedRun r s)) s.pinch
      if u.2 = true then declarePinch { steppedRun r s with pinch := u.1 }
      else { steppedRun r s with pinch := u.1 } := by
  simp only [drivenStep, h, steppedRun]
  rfl

theorem unexpectedEdge_of_few {s : State} (h : s.window.unexpected < 15) :
    unexpectedEdge s = { s with window := { s.window with unexpected := s.window.unexpected + 1 } } := by
  have hcount : ¬ s.window.unexpected + 1 = 16 := by omega
  exact (if_neg (by omega)).trans (if_neg hcount)

/-- The 16th unexpected edge ends the knowledge of the position (R97). -/
theorem unexpectedEdge_of_last {s : State} (h : s.window.unexpected = 15) :
    unexpectedEdge s =
      capture .windowHall ((knowledgeCode s.window.knowledge).setWidth 8) 16 0
        (setKnowledge .unpositioned { s with window := { s.window with unexpected := 16 } }) := by
  have hedge : onWindow (fun w => { w with unexpected := w.unexpected + 1 }) s =
      { s with window := { s.window with unexpected := 16 } } := by rw [onWindow, h]
  unfold unexpectedEdge
  rw [if_neg (by omega), hedge]
  rfl

theorem unexpectedEdge_of_many {s : State} (h : 16 ≤ s.window.unexpected) : unexpectedEdge s = s := if_pos h

/-! ## The start of a run (R104, R109, R113, R117) -/

theorem startsOverride_eq (m : Move) (n : Nat) :
    startsOverride m n =
      decide (m.kind = .manual ∧ m.dir = .up ∧ (m.source = .ownSwitch ∨ m.source = .pack) ∧ 2 ≤ n) := by
  rw [Bool.eq_iff_iff]
  simp [startsOverride, and_assoc]

theorem accMode_eq (d : Dir) (k : Knowledge) (o : Bool) :
    accMode d k o =
      if d = .up ∧ ¬ o = true then
        (match k with | .positioned => .sector | .bottomKnown => .bin | .unpositioned => .none)
      else .none := by
  cases d <;> cases o <;> cases k <;> rfl

/-- The state with the run of `m` in its records, before its heat is tested. -/
def runStarted (m : Move) (s : State) : State :=
  onPinch (pinchRunStart m.dir s.window.knowledge (startsOverride m s.window.reversals))
    (onWindow (driveRun m)
      (if s.window.bridge = .off then
        markRecord .windowRecord (onWindow (fun w => { w with movingMarker := true }) s)
      else s))

theorem runStarted_window (m : Move) (s : State) :
    (runStarted m s).window.heat = min 1000 (s.window.heat + 10) ∧ (runStarted m s).window.bridge = .drive := by
  unfold runStarted
  split <;> exact ⟨rfl, rfl⟩

theorem runStarted_eq (m : Move) (s : State) :
    let overrides := m.kind = .manual ∧ m.dir = .up ∧ (m.source = .ownSwitch ∨ m.source = .pack) ∧
      2 ≤ s.window.reversals
    let s1 : State :=
      if s.window.bridge = .off then
        markRecord .windowRecord { s with window := { s.window with movingMarker := true } }
      else s
    runStarted m s =
      { s1 with
        window :=
          { s1.window with
            bridge := .drive, lastDir := m.dir, coast := none, unexpected := 0
            run := some
              { dir := m.dir, ramp := 160, rampTimer := 0, openLoad := some 0, stall := 0
                override := decide overrides }
            heat := min 1000 (s.window.heat + 10), offTime := 0, excursion := none, overTime := 0
            reversalReset := if m.dir = .up then none else s.window.reversalReset }
        pinch :=
          { s.pinch with
            counter := some 0, stepCount := 0, blanking := true, filtered := none
            fallback := none, count := 0
            mode :=
              if m.dir = .up ∧ ¬ overrides then
                (match s.window.knowledge with
                  | .positioned => .sector | .bottomKnown => .bin | .unpositioned => .none)
              else .none
            sectorAcc := Vector.replicate 32 ⟨0, 0⟩, binAcc := Vector.replicate 64 ⟨0, 0⟩
            holding := [] } } := by
  intro overrides s1
  have hover : startsOverride m s.window.reversals = decide overrides := startsOverride_eq m s.window.reversals
  have hmode : accMode m.dir s.window.knowledge (decide overrides) =
      if m.dir = .up ∧ ¬ overrides then
        (match s.window.knowledge with
          | .positioned => .sector | .bottomKnown => .bin | .unpositioned => .none)
      else .none := by
    rw [accMode_eq]
    simp only [decide_eq_true_eq]
  rw [← hmode, ← hover]
  simp only [s1, runStarted]
  split <;> rfl

theorem startRun_eq (m : Move) (s : State) : startRun m s = thermalEnd (runStarted m s) := rfl

theorem startRun_of_cool {m : Move} {s : State} (h : s.window.heat + 10 < 1000) :
    startRun m s = runStarted m s := by
  obtain ⟨hheat, -⟩ := runStarted_window m s
  rw [startRun_eq]
  exact thermalEnd_of_not _ fun ⟨hfull, _⟩ => by omega

/-- A start charge that takes H to 1000 ends the move (R113). -/
theorem startRun_of_hot {m : Move} {s : State} (h : 1000 ≤ s.window.heat + 10) :
    startRun m s = endMove .stop false true .none (runStarted m s) := by
  obtain ⟨hheat, hdrive⟩ := runStarted_window m s
  rw [startRun_eq]
  exact thermalEnd_of_full (hheat.trans (Nat.min_eq_left h)) hdrive

/-! ## Stalls (R98, R99) -/

theorem setKnowledge_same {k : Knowledge} {s : State} (h : s.window.knowledge = k) : setKnowledge k s = s := if_pos h

theorem setKnowledge_new {k : Knowledge} {s : State} (h : s.window.knowledge ≠ k) :
    setKnowledge k s = markRecord .windowRecord { s with window := { s.window with knowledge := k } } := if_neg h

theorem setKnowledge_p (k : Knowledge) (s : State) : (setKnowledge k s).window.p = s.window.p := by
  unfold setKnowledge
  split <;> rfl

section
variable {s : State} {r : Run} (hr : s.window.run = some r)
include hr

/-- A downward stall runs into the bottom where it is not known, and within 16 counts of it (R98). -/
theorem stalled_of_bottom (hdir : r.dir = .down) (h : s.window.knowledge = .unpositioned ∨ s.window.p ≤ 16) :
    stalled s = bottomEnd s := by
  cases hk : s.window.knowledge
  case unpositioned => simp only [stalled, hr, hk, hdir]
  all_goals
    have hp : s.window.p ≤ 16 := h.resolve_left (by rw [hk]; exact Knowledge.noConfusion)
    simp only [stalled, hr, hk, hdir, if_pos hp]

theorem stalled_of_blocked_down (hdir : r.dir = .down) (hk : s.window.knowledge ≠ .unpositioned)
    (hp : 16 < s.window.p) : stalled s = blocked s := by
  cases hknown : s.window.knowledge
  case unpositioned => exact absurd hknown hk
  all_goals simp only [stalled, hr, hknown, hdir, if_neg (Nat.not_le.mpr hp)]

theorem stalled_of_unpositioned_up (hdir : r.dir = .up) (hk : s.window.knowledge = .unpositioned) :
    stalled s = blocked s := by
  simp only [stalled, hr, hk, hdir]

theorem stalled_of_bottomKnown_up (hdir : r.dir = .up) (hk : s.window.knowledge = .bottomKnown) :
    stalled s = learnTop s := by
  simp only [stalled, hr, hk, hdir]

/-- The rows of an upward stall of a POSITIONED window (R98): the top, a pinch, and a block. -/
theorem stalled_of_positioned_up {t : Nat} (hdir : r.dir = .up) (hk : s.window.knowledge = .positioned)
    (ht : s.window.pTop = some t) :
    stalled s =
      if t - 16 ≤ s.window.p then topEnd t s
      else if (inPinchZone t s.window.p && !r.override) = true then declarePinch s
      else blocked s := by
  simp only [stalled, hr, hk, hdir, ht]

end

theorem bottomEnd_of_unpositioned {s : State} (h : s.window.knowledge = .unpositioned) :
    bottomEnd s =
      endMove .stop false true .none (setKnowledge .bottomKnown { s with window := { s.window with p := 0 } }) := by
  rw [bottomEnd, if_pos h]
  rfl

theorem bottomEnd_of_known {s : State} (h : s.window.knowledge ≠ .unpositioned) :
    bottomEnd s = endMove .stop false true .none { s with window := { s.window with p := 0 } } := by
  rw [bottomEnd, if_neg h]
  rfl

/-- A move that ends at a top learned at its own position moves the count nowhere. -/
theorem topEnd_of_here {p : Nat} {s : State} (h : s.window.p = p) :
    topEnd p s = endMove .stop true true .none s := by
  subst h
  rfl

theorem inPinchZone_iff_travel (t p : Nat) :
    inPinchZone t p = true ↔ (t < 816 ∨ t ≤ p + 800) ∧ p + 16 ≤ t := by
  rw [inPinchZone_iff]
  split <;> omega

theorem apart_gt_iff (a b n : Nat) : n < apart a b ↔ b + n < a ∨ a + n < b := by
  unfold apart
  omega

theorem learnTop_of_range {s : State} (hlow : 400 ≤ s.window.p) (hhigh : s.window.p ≤ 4000)
    (hnear : s.window.pTop = none ∨ ∃ t, s.window.pTop = some t ∧ s.window.p ≤ t + 32 ∧ t ≤ s.window.p + 32) :
    learnTop s =
      endMove .stop true true .none
        (setKnowledge .positioned { s with window := { s.window with pTop := some s.window.p } }) := by
  unfold learnTop
  rw [if_pos ⟨hlow, hhigh⟩]
  rcases hnear with hnone | ⟨t, ht, hbelow, habove⟩
  · simp only [hnone]
    exact topEnd_of_here (setKnowledge_p ..)
  · have hapart : ¬ 32 < apart s.window.p t := by
      rw [apart_gt_iff]
      omega
    simp only [ht, if_neg hapart]
    exact topEnd_of_here (setKnowledge_p ..)

/-- A top more than 32 counts off the one known forgets the learn counts (R99). -/
theorem learnTop_of_far {s : State} {t : Nat} (hlow : 400 ≤ s.window.p) (hhigh : s.window.p ≤ 4000)
    (ht : s.window.pTop = some t) (hfar : t + 32 < s.window.p ∨ s.window.p + 32 < t) :
    learnTop s =
      endMove .stop true true .none
        (setKnowledge .positioned
          { s with window := { s.window with pTop := some s.window.p }, pinch := forgetCounts s.pinch }) := by
  unfold learnTop
  rw [if_pos ⟨hlow, hhigh⟩]
  simp only [ht, if_pos ((apart_gt_iff _ _ _).mpr hfar)]
  exact topEnd_of_here (setKnowledge_p ..)

theorem learnTop_of_outside {s : State} (h : s.window.p < 400 ∨ 4000 < s.window.p) :
    learnTop s =
      endMove .stop false true .none
        (capture .windowTravel (BitVec.ofNat 8 (s.window.p / 256)) (BitVec.ofNat 8 (s.window.p % 256)) 0 s) :=
  if_neg fun ⟨hlow, hhigh⟩ => by omega

end Sys2Proof.Machine

/-- Settles O51: the bridge, the expiries within a step, Hall edges, runs, stalls and the knowledge state, each by
the lemma of its operation. -/
theorem windowMotionRows : Obligations.WindowMotionRows := by
  refine ⟨fun w => ⟨fun hb => ?_, fun hb => ?_, fun r hb hr => ⟨fun t hdir hk ht hp => ?_, fun h => ?_⟩⟩,
    fun r s => rfl, fun k n s => ⟨rfl, fun h => ?_, fun x t hx ht => ?_⟩,
    fun s hwin => ⟨fun n => exec_hallStep n hwin, fun x => exec_commandOf, ?_, fun hact => ⟨?_, ?_, ?_, ?_⟩⟩,
    fun s m => ?_, fun s r hr => ?_⟩
  · simp only [windowBridge, hb]
  · simp only [windowBridge, hb]
  · rw [windowBridge_of_drive hb hr, hdir, windowDuty_of_entry hb hr hdir hk ht hp]
  · rw [windowBridge_of_drive hb hr, windowDuty_of_not_entry hb hr h]
  · exact elapseTimers_of_none s k n fun x t hx => h x t ((untilTimer_eq s x).symm.trans hx)
  · exact elapseTimers_of_first s k n t x (firstTimer_of_firstToExpire hx) ht
  · intro top moved
    have hmoved (d : Dir) : stepPosition d s.window = moved d := stepPosition_eq d s.window
    have hrun (r : Run) : steppedRun r s =
        { s with window := { s.window with p := moved r.dir, run := some { r with stall := 0 } } } := by
      rw [steppedRun, hmoved]
    refine ⟨fun h => ?_, fun hoff hrest => ⟨fun hfew => ?_, fun hlast => ?_, fun hmany => ?_⟩, fun r hb hr =>
      ⟨fun hdir => ?_, fun hdir => ?_⟩⟩
    · rw [← hmoved]
      rcases h with hbrake | ⟨hoff, hcoast⟩
      · exact hallEdge_of_brake hbrake
      · exact hallEdge_of_coast hoff hcoast
    · rw [hallEdge_of_rest hoff hrest, unexpectedEdge_of_few hfew]
    · rw [hallEdge_of_rest hoff hrest, unexpectedEdge_of_last hlast]
    · rw [hallEdge_of_rest hoff hrest, unexpectedEdge_of_many hmany]
    · rw [hallEdge_of_drive hb hr, drivenStep_of_down hdir, hrun]
    · rw [hallEdge_of_drive hb hr, drivenStep_of_up hdir, hrun]
  · exact fun r hb hr => ⟨exec_windowStall hwin hact hb hr, exec_windowStall_early hwin hact hb hr, by
      rw [exec_rampStep hwin hact hb, rampOver_of_run hr]⟩
  · exact exec_coastEnd hwin hact
  · intro hb hm
    rw [exec_windowBrakeEnd hwin hact hb, windowBrakeOver_of_none hm]
    rfl
  · intro m hb hm
    rw [exec_windowBrakeEnd hwin hact hb, windowBrakeOver_of_some hm]
  · intro overrides s1 s2
    have hs2 : runStarted m s = s2 := runStarted_eq m s
    rw [← hs2]
    exact ⟨startRun_of_cool, startRun_of_hot⟩
  · intro p bottom ended
    refine ⟨fun hk hdir => ?_, fun hk hdir => stalled_of_unpositioned_up hr hdir hk, fun hk hdir hp => ?_,
      fun hk hdir hp => stalled_of_blocked_down hr hdir hk hp, fun hk hdir => ?_, fun t hk ht hdir => ?_,
      fun k => ⟨setKnowledge_same, setKnowledge_new⟩⟩
    · rw [stalled_of_bottom hr hdir (.inl hk), bottomEnd_of_unpositioned hk]
    · rw [stalled_of_bottom hr hdir (.inr hp), bottomEnd_of_known hk]
    · rw [stalled_of_bottomKnown_up hr hdir hk]
      exact ⟨fun hlow hhigh => ⟨learnTop_of_range hlow hhigh, fun t => learnTop_of_far hlow hhigh⟩,
        learnTop_of_outside⟩
    · intro inZone
      have hzone : inPinchZone t p = true ↔ inZone := inPinchZone_iff_travel t p
      rw [stalled_of_positioned_up hr hdir hk ht]
      refine ⟨fun htop => if_pos (Nat.sub_le_iff_le_add.mpr htop), fun hbelow hin hplain => ?_, fun hbelow hout => ?_⟩
      · rw [if_neg (by omega), if_pos (by rw [hzone.mpr hin, hplain]; rfl)]
      · rw [if_neg (by omega), if_neg]
        · rfl
        · rw [Bool.and_eq_true, hzone, Bool.not_eq_true']
          rintro ⟨hin, hplain⟩
          rcases hout with hout | hover
          · exact hout hin
          · rw [hplain] at hover
            exact Bool.noConfusion hover

end

section
/-! SUPPORT. A close frame or an open frame at a window, sorted and tested (R132 to R135, R140). -/

open Sys2Proof Sys2Proof.Machine Sys2Proof.Safety Sys2Proof.Claims

namespace Sys2Proof.Machine

/-! ## The tests of a frame (R133, R134) -/

/-- Already closed (R134): at rest, within 16 steps of the known travel. -/
theorem alreadyThere_up_iff (w : Window) :
    alreadyThere .up w = true ↔
      w.move = none ∧ w.knowledge = .positioned ∧ ∃ t, w.pTop = some t ∧ t ≤ w.p + 16 := by
  unfold alreadyThere
  cases w.knowledge <;> cases w.pTop <;> simp

/-- Already open (R134): at rest, within 16 steps of the known bottom. -/
theorem alreadyThere_down_iff (w : Window) :
    alreadyThere .down w = true ↔
      w.move = none ∧ (w.knowledge = .bottomKnown ∨ w.knowledge = .positioned) ∧ w.p ≤ 16 := by
  unfold alreadyThere
  cases w.knowledge <;> simp

/-- The global conditions, one by one (R133). -/
theorem globalConditions_iff (d : Dir) (s : State) :
    globalConditions d s = true ↔
      s.pins.doorOpen = false ∧
        (d = .up → s.latch.target ≠ .unlocked ∧ s.crash.hold = false ∧ s.window.reversals < 2 ∧
          s.window.heat < 1000) ∧
        (d = .down → s.latch.target = .unlocked) := by
  cases d <;> simp [globalConditions, and_assoc]

/-! ## The sorting of a frame (R132, R140) -/

section
variable {d : Dir} {s : State}

theorem globalFrame_of_no_window (h : hasWindow s = false) : globalFrame d s = s :=
  if_pos (by simp [h])

/-- A frame under the global spent hold of its direction restarts the hold and does no more (R132, R140). -/
theorem globalFrame_of_held (hw : hasWindow s = true) (h : holds s.window.globalSpent d = true) :
    globalFrame d s = onWindow (globalHold d) s :=
  (if_neg (by simp [hw])).trans (if_pos h)

/-- A frame that no hold ignores clears the hold, and is a renewal or a start (R132, R140). -/
theorem globalFrame_of_free (hw : hasWindow s = true) (h : ∀ x, s.window.globalSpent = some x → x.dir ≠ d) :
    globalFrame d s =
      if globalMove d s.window = true then renewGlobal d (onWindow (fun w => { w with globalSpent := none }) s)
      else startGlobal d (onWindow (fun w => { w with globalSpent := none }) s) := by
  have hfree : ¬ holds s.window.globalSpent d = true := by
    rw [holds_iff]
    rintro ⟨x, hx, hd⟩
    exact h x hx hd
  exact (if_neg (by simp [hw])).trans (if_neg hfree)

/-! ## A renewal (R135) -/

theorem renewGlobal_of_conditions {m : Move} (hm : s.window.move = some m) (h : globalConditions d s = true) :
    renewGlobal d s = { s with window := { s.window with move := some { m with lease := some 600000 } } } := by
  simp only [renewGlobal, h, if_true, onWindow, hm, Option.map_some, tGlobalLease]

theorem renewGlobal_of_not_conditions (h : ¬ globalConditions d s = true) :
    renewGlobal d s = endMove .brakeStop false false .globalRefused s :=
  if_neg h

/-! ## A start (R134) -/

/-- A refusal shows at a window at rest. -/
theorem onWindow_refuseGlobal_of_rest (h : s.window.move = none) :
    onWindow refuseGlobal s = { s with window := { s.window with stopReason := .globalRefused } } := by
  simp only [onWindow, refuseGlobal, h, Option.isNone_none, if_true]

/-- A refusal leaves a running move and its stop reason alone. -/
theorem onWindow_refuseGlobal_of_move (h : s.window.move ≠ none) : onWindow refuseGlobal s = s := by
  simp only [onWindow, refuseGlobal, Option.isNone_iff_eq_none, if_neg h]

theorem startGlobal_of_not_conditions (h : ¬ globalConditions d s = true) :
    startGlobal d s = onWindow refuseGlobal s :=
  if_neg h

/-- With the conditions met, a frame clears HALTED and then passes to the tests of R106
(notes/assumptions/26.md). -/
theorem startGlobal_of_permitted (hc : globalConditions d s = true)
    (hp : permitted ⟨.global, d, .fob⟩ (onWindow clearHalted s) = true) :
    startGlobal d s =
      if alreadyThere d (clearHalted s.window) = true then onWindow (globalHold d) (onWindow clearHalted s)
      else takeMove (Command.move ⟨.global, d, .fob⟩) (onWindow clearHalted s) :=
  (if_pos hc).trans (if_pos hp)

theorem startGlobal_of_refused (hc : globalConditions d s = true)
    (hp : permitted ⟨.global, d, .fob⟩ (onWindow clearHalted s) = false) :
    startGlobal d s = onWindow refuseGlobal (onWindow clearHalted s) :=
  (if_pos hc).trans (if_neg (Bool.eq_false_iff.mp hp))

theorem command_move_global (d : Dir) :
    Command.move ⟨.global, d, .fob⟩ =
      { kind := .global, dir := d, source := .fob, lease := some 600000
        target := if d = .up then .top else .bottom } := by
  simp [Command.move, tGlobalLease]

end

end Sys2Proof.Machine

/-- Settles O35: a frame that the hold does not ignore is sorted by the move record, and each sort is tested by the
lemmas of its operation. -/
theorem globalFrameHolds : Obligations.GlobalFrame := by
  refine ⟨fun w => ⟨alreadyThere_up_iff w, alreadyThere_down_iff w⟩, fun _ _ => globalFrame_of_no_window, ?_⟩
  intro d s hw conditions s1
  have hcond : globalConditions d s1 = true ↔ conditions := globalConditions_iff d s1
  refine ⟨fun r hr => ?ignored, fun hfree => ⟨fun m hm hk hd => ?renewal, fun hno => ?start⟩⟩
  case ignored => exact globalFrame_of_held hw ((holds_iff _ _).mpr ⟨_, hr, rfl⟩)
  case renewal =>
    have hrenew : globalFrame d s = renewGlobal d s1 :=
      (globalFrame_of_free hw hfree).trans (if_pos ((globalMove_iff d s.window).mpr ⟨m, hm, hk, hd⟩))
    rw [hrenew]
    exact ⟨fun h => renewGlobal_of_conditions hm (hcond.mpr h),
      fun h => renewGlobal_of_not_conditions (hcond.not.mpr h)⟩
  case start =>
    have hstart : globalFrame d s = startGlobal d s1 := by
      refine (globalFrame_of_free hw hfree).trans (if_neg ?_)
      rw [globalMove_iff]
      rintro ⟨m, hm, hglobal⟩
      exact hno m hm hglobal
    rw [hstart]
    constructor
    · intro h
      rw [startGlobal_of_not_conditions (hcond.not.mpr h)]
      exact ⟨onWindow_refuseGlobal_of_rest (s := s1), onWindow_refuseGlobal_of_move (s := s1)⟩
    · intro h s2
      have hmove : s2.window.move = s.window.move := clearHalted_move s1.window
      refine ⟨fun hperm hthere => ?_, fun hperm hthere => ?_, fun hrefused => ?_⟩
      · rw [startGlobal_of_permitted (hcond.mpr h) hperm, ← command_move_global]
        exact if_neg (Bool.eq_false_iff.mp hthere)
      · rw [startGlobal_of_permitted (hcond.mpr h) hperm]
        exact if_pos hthere
      · rw [startGlobal_of_refused (hcond.mpr h) hrefused, ← hmove]
        exact ⟨onWindow_refuseGlobal_of_rest (s := s2), onWindow_refuseGlobal_of_move (s := s2)⟩

end

section
/-! SUPPORT. The touch scanner: scan periods, kept measurements, and what a touch reaches (R142 to R152, R155, R158). -/

open Sys2Proof Sys2Proof.Machine Sys2Proof.Safety Sys2Proof.Claims

namespace Sys2Proof.Machine

variable {s : State}

/-! ## A measurement leaves the station operating -/

@[simp] theorem releaseRequest_supply : (releaseRequest s).supply = s.supply := by
  rw [releaseRequest_eq]
  split <;> rfl

@[simp] theorem placeSearch_supply : (placeSearch s).supply = s.supply := by
  simp only [placeSearch]
  split_ifs <;> exact place_supply ..

@[simp] theorem touchSearch_supply (z : Zone) (woke : Bool) : (touchSearch z woke s).supply = s.supply := by
  unfold touchSearch
  split
  case h_1 =>
    cases woke
    · exact placeSearch_supply
    · rfl
  all_goals split <;> rfl

@[simp] theorem touchEvent_supply (z : Zone) (woke : Bool) : (touchEvent z woke s).supply = s.supply := by
  simp only [touchEvent]
  split_ifs
  · rfl
  · exact releaseRequest_supply
  · exact touchSearch_supply z woke

theorem running_of_supply {t : State} (h : t.supply = s.supply) : running t = running s := by rw [running, h, running]

/-- A wake restarts the supply monitor, but not the station (R176, R180). -/
@[simp] theorem wake_running : running (wake s) = running s := by
  unfold wake
  split
  · exact running_of_supply (s := wakeBlocks s) (placeState_supply _)
  · rfl

@[simp] theorem capture_running (k : FaultKind) (a b c : Byte) : running (capture k a b c s) = running s :=
  (running_of_supply (captureAwake_supply ..)).trans wake_running

@[simp] theorem afterKept_running (i : Fin 3) (before : Electrode) : running (afterKept i before s) = running s := by
  simp only [afterKept]
  split_ifs
  · exact running_of_supply (touchEvent_supply ..)
  · exact wake_running
  · rfl

@[simp] theorem measure_running (i : Fin 3) (n : Nat) : running (measure i n s) = running s := by
  unfold measure
  dsimp only
  split
  · split
    · rfl
    · exact capture_running ..
  · split
    · rfl
    · exact afterKept_running ..

@[simp] theorem measure_operating (i : Fin 3) (n : Nat) : operating (measure i n s) = operating s := by
  simp only [operating, configFault, measure_running, (measure_kept s i n).2]

/-! ## Scan periods (R142, R149) -/

/-- The tailgate station measures electrode 3, and every other station electrodes 1 and 2 (R142). -/
theorem measured_iff (s : State) (i : Fin 3) :
    measured s i = true ↔ operating s = true ∧ (s.straps.position = 4 ↔ i = 2) := by
  by_cases h4 : s.straps.position = 4 <;> simp [measured, isTailgate, ownNumber, h4]

theorem nextElectrode_eq (ho : operating s = true) (n : Nat) :
    nextElectrode s n =
      if s.straps.position = 4 then (if n ≤ 2 then some 2 else none)
      else if n = 0 then some 0 else if n = 1 then some 1 else none := by
  have hlist : List.finRange 3 = [0, 1, 2] := rfl
  have hmeasured (e : Fin 3) : measured s e = decide (s.straps.position = 4 ↔ e = 2) := by
    rw [Bool.eq_iff_iff, measured_iff, decide_eq_true_iff, and_iff_right ho]
  by_cases h4 : s.straps.position = 4
  · by_cases hn : n ≤ 2 <;> simp [nextElectrode, hlist, hmeasured, h4, hn]
  · match n with
    | 0 => simp [nextElectrode, hlist, hmeasured, h4]
    | 1 => simp [nextElectrode, hlist, hmeasured, h4]
    | n + 2 => simp [nextElectrode, hlist, hmeasured, h4]

/-- The electrode that is measured after electrode `i` (R142). -/
theorem nextElectrode_after (ho : operating s = true) (i : Fin 3) :
    nextElectrode s (i.val + 1) =
      if s.straps.position = 4 then (if i = 2 then none else some 2) else if i = 0 then some 1 else none := by
  rw [nextElectrode_eq ho]
  match i with
  | 0 => rfl
  | 1 => rfl
  | 2 => rfl

theorem startPeriod_eq (ho : operating s = true) :
    startPeriod s =
      { s with touch :=
        { s.touch with
          scanElapsed := 0, cutShort := false, measureElapsed := 0
          scanLength := if s.power.asleep then 100000 else 10000
          measuring :=
            if s.touch.paused then none else if s.straps.position = 4 then some 2 else some 0 } } := by
  simp only [startPeriod, nextElectrode_eq ho]
  rfl

theorem chainMeasurement_eq (ho : operating s = true) (i : Fin 3) :
    chainMeasurement i s =
      { s with touch :=
        { s.touch with
          measureElapsed := 0
          measuring :=
            if s.touch.cutShort = true ∨ s.touch.paused = true then none
            else if s.straps.position = 4 then (if i = 2 then none else some 2)
            else if i = 0 then some 1 else none } } := by
  simp only [chainMeasurement, nextElectrode_after ho, Bool.or_eq_true]

theorem exec_scanPeriodStart (ho : operating s = true) (hm : s.touch.measuring = none) :
    exec .scanPeriodStart s = .next (conclude (startPeriod s)) :=
  exec_of_event rfl (by simp [ho, hm]) rfl

theorem exec_measurementEnd {i : Fin 3} (n : Nat) (ho : operating s = true) (hm : s.touch.measuring = some i) :
    exec (.measurementEnd n) s = .next (conclude (chainMeasurement i (measure i n s))) :=
  exec_of_event rfl (by simp [ho, hm]) (by simp only [measurementOver, hm])

/-- A pause holds the touch time (R149). -/
theorem exec_touchStuckExpiry_of_paused (i : Fin 3) (hp : s.touch.paused = true) :
    exec (.touchStuckExpiry i) s = .next s :=
  event_of_false s _ (by simp [hp])

theorem exec_touchStuckExpiry {i : Fin 3} (hm : measured s i = true) (hp : s.touch.paused = false)
    (ht : (s.touch.electrodes[i]).touched = true) :
    exec (.touchStuckExpiry i) s =
      .next (conclude (onElectrode i (fun e => { released e with baseline := some (16 * e.count) }) s)) :=
  exec_of_event rfl (by simp only [((measured_iff s i).mp hm).1, hm, hp, ht]; rfl) rfl

/-! ## Measurements (R143, R145) -/

section
variable {i : Fin 3} {n : Nat}

theorem measure_of_reported (hn : 4096 ≤ n) (h : (s.touch.electrodes[i]).overflow = true) : measure i n s = s :=
  (if_pos hn).trans (if_pos h)

/-- The first measurement of 4096 cycles or more is captured (R143). -/
theorem measure_of_overflow (hn : 4096 ≤ n) (h : (s.touch.electrodes[i]).overflow = false) :
    measure i n s =
      capture .touchOverflow (BitVec.ofNat 8 (i.val + 1)) (if (s.touch.electrodes[i]).touched then 1 else 0) 0
        (onElectrode i (fun e => { e with overflow := true }) s) :=
  (if_pos hn).trans (if_neg (Bool.eq_false_iff.mp h))

theorem measure_of_discard (hn : n < 4096) (h : (s.touch.electrodes[i]).discard = true) :
    measure i n s = onElectrode i (fun e => { e with discard := false }) s :=
  (if_neg (Nat.not_le.mpr hn)).trans (if_pos h)

theorem measure_of_kept (hn : n < 4096) (h : (s.touch.electrodes[i]).discard = false) :
    measure i n s = afterKept i s.touch.electrodes[i] (onElectrode i (kept s.power.asleep n) s) :=
  (if_neg (Nat.not_le.mpr hn)).trans (if_neg (Bool.eq_false_iff.mp h))

end

/-! ## Kept measurements (R146, R147) -/

section
variable {asleep : Bool} {c b : Nat} {e : Electrode}

theorem kept_of_first (hb : e.baseline = none) :
    kept asleep c e = { e with count := c, baseline := some (16 * c) } := by
  simp only [kept, hb]

theorem kept_of_released (hb : e.baseline = some b) (ht : e.touched = false) :
    kept asleep c e = keptReleased asleep b c { e with count := c } := by
  simp [kept, hb, ht]

theorem kept_of_touched (hb : e.baseline = some b) (ht : e.touched = true) :
    kept asleep c e = keptTouched b c { e with count := c } := by
  simp only [kept, hb, ht, if_true]

/-- A RELEASED electrode counts toward TOUCHED from a delta of 40 (R146). -/
theorem keptReleased_of_counting (hd : 40 ≤ delta b c) (hn : e.onCount < 2) :
    keptReleased asleep b c e =
      { e with onCount := e.onCount + 1, wakeMark := e.wakeMark || (asleep && e.onCount == 0) } :=
  (if_pos hd).trans (if_neg (Nat.not_le.mpr hn))

theorem keptReleased_of_third (hd : 40 ≤ delta b c) (hn : 2 ≤ e.onCount) :
    keptReleased asleep b c e =
      { e with touched := true, onCount := 0, offCount := 0, touchTime := some 0, wakeMark := false } :=
  (if_pos hd).trans (if_pos hn)

theorem keptReleased_of_tracking (hd : delta b c < 40) :
    keptReleased asleep b c e = { e with onCount := 0, wakeMark := false, baseline := some (track b c) } :=
  if_neg (Int.not_le.mpr hd)

/-- A TOUCHED electrode counts toward RELEASED below a delta of 25 (R147). -/
theorem keptTouched_of_held (hd : 25 ≤ delta b c) : keptTouched b c e = { e with offCount := 0 } :=
  if_neg (Int.not_lt.mpr hd)

theorem keptTouched_of_counting (hd : delta b c < 25) (hn : e.offCount < 2) :
    keptTouched b c e = { e with offCount := e.offCount + 1 } :=
  (if_pos hd).trans (if_neg (Nat.not_le.mpr hn))

theorem keptTouched_of_third (hd : delta b c < 25) (hn : 2 ≤ e.offCount) : keptTouched b c e = released e :=
  (if_pos hd).trans (if_pos hn)

end

/-! ## What a kept measurement leads to (R150, R151) -/

section
variable {i : Fin 3} {before : Electrode}

theorem afterKept_of_touch (h : before.touched = false ∧ (s.touch.electrodes[i]).touched = true) :
    afterKept i before s = touchEvent (electrodeZone i) before.wakeMark s := by
  obtain ⟨hreleased, htouched⟩ := h
  exact if_pos (by rw [hreleased, htouched]; rfl)

theorem afterKept_of_no_touch (h : ¬ (before.touched = false ∧ (s.touch.electrodes[i]).touched = true)) :
    afterKept i before s =
      if s.power.asleep = true ∧ before.onCount = 0 ∧ (s.touch.electrodes[i]).onCount = 1 then
        placeState (woken s)
      else s := by
  have hno : ¬ ((!before.touched && (s.touch.electrodes[i]).touched) = true) := by simpa using h
  refine (if_neg hno).trans ?_
  simp only [Bool.and_eq_true, beq_iff_eq, and_assoc]
  split_ifs with hfirst
  · exact wake_of_asleep hfirst.1
  · rfl

end

/-! ## Touch events (R151, R152, R155, R158) -/

theorem touchIgnored_iff (z : Zone) (s : State) :
    touchIgnored z s = true ↔
      s.vehicle.ignition = .on ∨ s.vehicle.ignition = .crank ∨ s.crash.hold = true ∨ s.supply.value < 90 ∨
        (z = .lock ∧ s.pins.doorOpen = true) := by
  simp only [touchIgnored, Bool.or_eq_true, Bool.and_eq_true, beq_iff_eq, decide_eq_true_eq, or_assoc]

section
variable {z : Zone} {woke : Bool}

theorem touchEvent_of_release (hi : ¬ touchIgnored z s = true) (h : z = .release ∧ s.latch.target = .unlocked) :
    touchEvent z woke s = releaseRequest s :=
  (if_neg hi).trans (if_pos h)

theorem touchEvent_of_search (hi : ¬ touchIgnored z s = true) (h : z ≠ .release ∨ s.latch.target ≠ .unlocked) :
    touchEvent z woke s = touchSearch z woke s :=
  (if_neg hi).trans (if_neg (not_and_or.mpr h))

/-- A touch gives its zone to a running search without one, and else leaves it (R158). -/
theorem touchSearch_of_running (h : s.search.phase ≠ .idle) :
    touchSearch z woke s =
      if s.search.touchZone = none then { s with search := { s.search with touchZone := some z } } else s := by
  unfold touchSearch
  split
  case h_1 hidle => exact absurd hidle h
  all_goals cases s.search.touchZone <;> rfl

end

end Sys2Proof.Machine

/-- Settles O57: the scan by the electrodes a station measures, a measurement by its tests in order, and a touch by
what ignores it, by the release, and by the phase of the search. -/
theorem touchRows : Obligations.TouchRows := by
  refine ⟨measured_iff, fun s ho => ⟨fun hm => ?_, fun i n hm => ?_, exec_touchStuckExpiry_of_paused,
    fun i hm hp ht => exec_touchStuckExpiry hm hp ht⟩, ⟨?_, ?_⟩, ?_, ?_⟩
  · rw [exec_scanPeriodStart ho hm, startPeriod_eq ho]
  · have hposition : (measure i n s).straps.position = s.straps.position := by rw [(measure_kept s i n).2]
    rw [exec_measurementEnd n ho hm, chainMeasurement_eq ((measure_operating i n).trans ho), hposition]
  · exact fun _ _ _ => ⟨measure_of_reported, measure_of_overflow, measure_of_discard, measure_of_kept⟩
  · refine fun asleep c e => ⟨kept_of_first, fun b hb ht => ⟨fun hd hn => ?_, fun hd hn => ?_, fun hd => ?_⟩,
      fun b hb ht => ⟨fun hd => ?_, fun hd hn => ?_, fun hd hn => ?_⟩⟩
    · exact (kept_of_released hb ht).trans (keptReleased_of_counting hd hn)
    · exact (kept_of_released hb ht).trans (keptReleased_of_third hd hn)
    · exact (kept_of_released hb ht).trans (keptReleased_of_tracking hd)
    · exact (kept_of_touched hb ht).trans (keptTouched_of_held hd)
    · exact (kept_of_touched hb ht).trans (keptTouched_of_counting hd hn)
    · exact (kept_of_touched hb ht).trans (keptTouched_of_third hd hn)
  · exact fun i before s => ⟨afterKept_of_touch, fun hno hfirst => (afterKept_of_no_touch hno).trans (if_pos hfirst),
      fun hno hfirst => (afterKept_of_no_touch hno).trans (if_neg hfirst)⟩
  · intro z woke s ignored begun
    have hi : touchIgnored z s = true ↔ ignored := touchIgnored_iff z s
    refine ⟨fun h => if_pos (hi.mpr h), fun h hz ht => touchEvent_of_release (hi.not.mpr h) ⟨hz, ht⟩,
      fun h hz => ?_⟩
    have hidle (hp : s.search.phase = .idle) : touchEvent z woke s = startSearch z woke s := by
      rw [touchEvent_of_search (hi.not.mpr h) hz, touchSearch, hp]
    have hrun (hp : s.search.phase ≠ .idle) :=
      (touchEvent_of_search (woke := woke) (hi.not.mpr h) hz).trans (touchSearch_of_running hp)
    exact ⟨fun hp hw => (hidle hp).trans (if_pos hw),
      fun hp hw => (hidle hp).trans (if_neg (Bool.eq_false_iff.mp hw)),
      fun hp hzone => (hrun hp).trans (if_pos hzone), fun hp hzone => (hrun hp).trans (if_neg hzone)⟩

end

section
/-! SUPPORT. The search unit: the wake wait, the own SEARCH, the slots, the ranked verdict and the decision (R149, R154
to R156, R159 to R162, R165). -/

open Sys2Proof Sys2Proof.Machine Sys2Proof.Safety Sys2Proof.Claims

namespace Sys2Proof.Machine

variable {s : State}

/-! ## The wake wait (R155) -/

theorem exec_wakeWaitEnd (ha : active s = true) (hw : waitRuns s.search.wakeWait = true) :
    exec .wakeWaitEnd s = .next (conclude (waitOver s)) :=
  exec_of_event rfl (by rw [ha, hw]; rfl) rfl

/-- The first 5 ms end with a wait for the queued STATE, where one is queued (R155). -/
theorem waitOver_of_first {t : Nat} (hw : s.search.wakeWait = .first t) :
    waitOver s =
      if ∃ e ∈ s.link.tx, e.telegram.kind = 8 then
        { s with search := { s.search with wakeWait := .awaitState } }
      else placeSearch s := by
  simp only [waitOver, hw, List.any_eq_true, beq_iff_eq]
  rfl

theorem waitOver_of_second {t : Nat} (hw : s.search.wakeWait = .second t) : waitOver s = placeSearch s := by
  simp only [waitOver, hw]

/-! ## Slots (R154, R159 to R161) -/

theorem ownSlotSet_eq (s : State) :
    ownSlotSet s = match s.straps.body with | .fiveDoor => 0x3F | .threeDoor => 0x33 := by
  cases hb : s.straps.body <;> simp only [ownSlotSet, expected, hb] <;> rfl

theorem exec_slotStart {k : Fin 6} (ha : active s = true) (hp : s.search.phase = .inFlight)
    (hown : min k.val 4 = s.straps.position.val) (hnext : s.search.nextSlot ≤ k.val) :
    exec (.slotStart k) s =
      .next (conclude { s with search :=
        { s.search with
          nextSlot := k.val + 1
          driving := if s.search.slots.getLsbD k.val = true ∧ 90 ≤ s.supply.value then some k else none } }) :=
  exec_of_event rfl (by simp [ha, hp, ownsSlot, slotStation, ownNumber, hown, hnext])
    (by simp only [onSearch, Bool.and_eq_true, decide_eq_true_eq])

theorem exec_slotEnd {k : Fin 6} (reached : Bool) (ha : active s = true) (hd : s.search.driving = some k) :
    exec (.slotEnd reached) s = .next (conclude (slotOver reached s)) :=
  exec_of_event rfl (by simp [ha, hd]) rfl

theorem slotOver_of_reached {k : Fin 6} (hd : s.search.driving = some k) :
    slotOver true s = { s with search := { s.search with driving := none } } := by
  simp only [slotOver, hd, if_true]
  rfl

/-- A slot in which the coil current was not reached is captured, and its coil is held to be open (R161). -/
theorem slotOver_of_open {k : Fin 6} (hawake : s.power.asleep = false) (hd : s.search.driving = some k) :
    slotOver false s =
      captureAwake .lfOpen (BitVec.ofNat 8 k.val) s.search.number 0
        { s with search := { s.search with driving := none, coilOpen := true } } := by
  simp only [slotOver, hd, Bool.false_eq_true, if_false]
  exact capture_of_awake _ _ _ _ _ hawake

/-- The coil sends the search number in a slot of the running search (R159). -/
theorem lfBurst_iff (ha : active s = true) (k : Fin 6) (b : Byte) :
    lfBurst s = some (k, b) ↔
      s.search.driving = some k ∧ b = s.search.number ∧ s.search.phase = .inFlight ∧
        ∃ t, s.search.t0 = some t ∧ s.now < t + 3000 * (k.val + 1) := by
  obtain ⟨ho, hawake⟩ := (active_iff_operating s).mp ha
  have hr : running s = true := running_of_operating ho
  have hend (t : Nat) : t + tSlotStart k + 2000 = t + 3000 * (k.val + 1) := by unfold tSlotStart; omega
  have hdriven : lfDriven s = some k ↔
      s.search.driving = some k ∧ s.search.phase = .inFlight ∧
        ∃ t, s.search.t0 = some t ∧ s.now < t + 3000 * (k.val + 1) := by
    cases hd : s.search.driving with
    | none => simp [lfDriven, hd]
    | some j =>
      cases ht : s.search.t0 with
      | none => simp [lfDriven, hd, ht]
      | some t =>
        by_cases hj : j = k
        · subst hj
          simp [lfDriven, hd, ht, hawake, hr, hend]
        · simp [lfDriven, hd, ht, hj]
  simp only [lfBurst, Option.map_eq_some_iff, Prod.mk.injEq]
  constructor
  · rintro ⟨j, hj, rfl, hb⟩
    obtain ⟨hd, hp, ht⟩ := hdriven.mp hj
    exact ⟨hd, hb.symm, hp, ht⟩
  · rintro ⟨hd, hb, hp, ht⟩
    exact ⟨k, hdriven.mpr ⟨hd, hp, ht⟩, rfl, hb.symm⟩

/-! ## The phases (R149, R159, R162) -/

theorem exec_collectingStart (ha : active s = true) (hp : s.search.phase = .inFlight) :
    exec .collectingStart s =
      .next (conclude (resumeTouch { s with search := { s.search with phase := .collecting } })) :=
  exec_of_event (by rfl) (by simp [ha, hp]) (by rfl)

theorem exec_collectionEnd (ha : active s = true) (hp : s.search.phase = .collecting) :
    exec .collectionEnd s = .next (conclude (endCollection s)) :=
  exec_of_event rfl (by simp [ha, hp]) rfl

/-! ## The own SEARCH (R154, R156) -/

theorem nextLocalCount_eq (n : Nat) : nextLocalCount n = if n < 31 then n + 1 else 1 := by
  by_cases h : n < 31
  · rw [nextLocalCount, if_neg (by omega), if_pos h]
  · rw [nextLocalCount, if_pos (by omega), if_neg h]

/-- The SEARCH with the next number, the own zone and the slots of the expected set (R154). -/
def ownSearch (s : State) : Telegram :=
  { kind := 5, sender := BitVec.ofFin s.straps.position
    payload :=
      [BitVec.ofNat 8 (s.straps.position.val * 32 + s.search.localCount),
        (match s.search.touchZone with
          | none => 0 | some .unlock => 1 | some .lock => 2 | some .release => 3),
        (match s.straps.body with | .fiveDoor => 0x3F | .threeDoor => 0x33)] }

/-- The search record while the own SEARCH awaits its outcome (R154). -/
def searchAwaited (s : State) : State :=
  { s with search :=
    { s.search with
      localCount := if s.search.localCount < 31 then s.search.localCount + 1 else 1
      awaited := true, wakeWait := .stopped } }

/-- A SEARCH that the link does not take in is at once abandoned (R156). -/
theorem placeSearch_eq (s : State) :
    placeSearch s =
      if (place (ownSearch s) (searchAwaited s)).2 = .taken then (place (ownSearch s) (searchAwaited s)).1
      else abandoned (place (ownSearch s) (searchAwaited s)).1 := by
  have hsearch : ownTelegram s kSearch
      [nextSearchNumber s, (match s.search.touchZone with | some z => zoneCode z | none => 0),
        (ownSlotSet s).setWidth 8] = ownSearch s := by
    simp only [ownSlotSet_eq, ownSearch]
    cases s.search.touchZone with
    | none => cases s.straps.body <;> rfl
    | some z => cases z <;> cases s.straps.body <;> rfl
  have hawaited : onSearch (fun x =>
      { x with localCount := nextLocalCount x.localCount, awaited := true, wakeWait := .stopped }) s =
        searchAwaited s := by
    simp only [onSearch, nextLocalCount_eq, searchAwaited]
  rw [← hsearch, ← hawaited]
  rfl

/-! ## The ranked verdict (R165) -/

section
variable {l : List Verdict}

theorem rankedVerdict_of_inside (h : .inside ∈ l) : rankedVerdict l = .inside :=
  if_pos (List.contains_iff_mem.mpr h)

theorem rankedVerdict_of_not_inside (h : .inside ∉ l) :
    rankedVerdict l = ((l.find? isOutsideAt).or (l.find? isOutsideNear)).getD .notFound := by
  have hno : ¬ (l.contains .inside = true) := mt List.contains_iff_mem.mp h
  rw [rankedVerdict, if_neg hno]
  cases l.find? isOutsideAt <;> cases l.find? isOutsideNear <;> rfl

theorem isOutsideAt_iff (v : Verdict) : isOutsideAt v = true ↔ ∃ k, v = .outsideAt k := by
  cases v <;> simp [isOutsideAt]

theorem isOutsideNear_iff (v : Verdict) : isOutsideNear v = true ↔ ∃ k, v = .outsideNear k := by
  cases v <;> simp [isOutsideNear]

theorem find_isOutsideAt_eq_none (h : ∀ k, .outsideAt k ∉ l) : l.find? isOutsideAt = none := by
  rw [List.find?_eq_none]
  intro v hv hat
  obtain ⟨k, rfl⟩ := (isOutsideAt_iff v).mp hat
  exact h k hv

theorem find_isOutsideNear_eq_none (h : ∀ k, .outsideNear k ∉ l) : l.find? isOutsideNear = none := by
  rw [List.find?_eq_none]
  intro v hv hnear
  obtain ⟨k, rfl⟩ := (isOutsideNear_iff v).mp hnear
  exact h k hv

/-- The first OUTSIDE_AT of a list. -/
theorem find_isOutsideAt_append {pre post : List Verdict} (d : Fin 5) (h : ∀ k, .outsideAt k ∉ pre) :
    (pre ++ .outsideAt d :: post).find? isOutsideAt = some (.outsideAt d) := by
  rw [List.find?_append, find_isOutsideAt_eq_none h]
  rfl

/-- The first OUTSIDE_NEAR of a list. -/
theorem find_isOutsideNear_append {pre post : List Verdict} (d : Fin 5) (h : ∀ k, .outsideNear k ∉ pre) :
    (pre ++ .outsideNear d :: post).find? isOutsideNear = some (.outsideNear d) := by
  rw [List.find?_append, find_isOutsideNear_eq_none h]
  rfl

theorem rankedVerdict_of_at {pre post : List Verdict} {d : Fin 5} (hi : .inside ∉ l)
    (hl : l = pre ++ .outsideAt d :: post) (h : ∀ k, .outsideAt k ∉ pre) : rankedVerdict l = .outsideAt d := by
  subst hl
  rw [rankedVerdict_of_not_inside hi, find_isOutsideAt_append d h]
  rfl

theorem rankedVerdict_of_near {pre post : List Verdict} {d : Fin 5} (hi : .inside ∉ l)
    (hat : ∀ k, .outsideAt k ∉ l) (hl : l = pre ++ .outsideNear d :: post) (h : ∀ k, .outsideNear k ∉ pre) :
    rankedVerdict l = .outsideNear d := by
  rw [rankedVerdict_of_not_inside hi, find_isOutsideAt_eq_none hat, hl, find_isOutsideNear_append d h]
  rfl

theorem rankedVerdict_of_none (hi : .inside ∉ l) (h : ∀ k, .outsideAt k ∉ l ∧ .outsideNear k ∉ l) :
    rankedVerdict l = .notFound := by
  rw [rankedVerdict_of_not_inside hi, find_isOutsideAt_eq_none fun k => (h k).1,
    find_isOutsideNear_eq_none fun k => (h k).2]
  rfl

end

/-! ## The decision (R162, R165) -/

/-- The search has ended with a verdict: its record is IDLE and without a zone (R162). -/
def searchEnded (v : Verdict) (s : State) : State :=
  { s with search := { s.search with lastVerdict := v, touchZone := none, phase := .idle, driving := none } }

/-- What a match at the own door brings about, by its zone (R165). -/
def zoneRequest (z : Zone) (s : State) : State :=
  match z with
  | .unlock => placeRequest .unlock .keyless s.search.number s
  | .lock => placeRequest .lock .keyless s.search.number s
  | .release => releaseRequest s

section
variable {own : Nat} {l : List Verdict}

theorem acceptedVerdict_of_at (hat : .outsideAt (capFin 4 own) ∈ l) :
    acceptedVerdict own l = some (.outsideAt (capFin 4 own)) :=
  if_pos (List.contains_iff_mem.mpr hat)

theorem acceptedVerdict_of_near (hat : .outsideAt (capFin 4 own) ∉ l) (hnear : .outsideNear (capFin 4 own) ∈ l) :
    acceptedVerdict own l = some (.outsideNear (capFin 4 own)) :=
  (if_neg (mt List.contains_iff_mem.mp hat)).trans (if_pos (List.contains_iff_mem.mpr hnear))

theorem acceptedVerdict_of_none (hat : .outsideAt (capFin 4 own) ∉ l) (hnear : .outsideNear (capFin 4 own) ∉ l) :
    acceptedVerdict own l = none :=
  (if_neg (mt List.contains_iff_mem.mp hat)).trans (if_neg (mt List.contains_iff_mem.mp hnear))

end

theorem endCollection_of_no_zone (h : s.search.touchZone = none) :
    endCollection s = searchEnded (rankedVerdict (verdictList s)) s := by
  simp only [endCollection, h]
  rfl

/-- A fob inside refuses a lock by touch (R165). -/
theorem endCollection_of_inside (h : s.search.touchZone = some .lock) (hi : .inside ∈ verdictList s) :
    endCollection s = searchEnded .inside (refuse .keyInside s) := by
  have hdecide : decideSearch .lock s = setVerdict .inside (refuse .keyInside s) :=
    if_pos ⟨rfl, List.contains_iff_mem.mpr hi⟩
  simp only [endCollection, h, hdecide]
  rfl

section
variable {z : Zone} (h : s.search.touchZone = some z) (hi : z ≠ .lock ∨ .inside ∉ verdictList s)
include h hi

theorem endCollection_of_decided :
    endCollection s =
      match acceptedVerdict s.straps.position.val (verdictList s) with
      | none => searchEnded (rankedVerdict (verdictList s)) s
      | some v => searchEnded v (zoneRequest z s) := by
  have hno : ¬ (z = .lock ∧ (verdictList s).contains .inside = true) := by
    rw [List.contains_iff_mem]
    exact not_and_or.mpr hi
  simp only [endCollection, h, decideSearch, if_neg hno, ownNumber]
  cases acceptedVerdict s.straps.position.val (verdictList s) <;> rfl

/-- A match at the own door brings about what the zone asks for (R165). -/
theorem endCollection_of_match {v : Verdict}
    (hv : acceptedVerdict s.straps.position.val (verdictList s) = some v) :
    endCollection s = searchEnded v (zoneRequest z s) := by
  rw [endCollection_of_decided h hi, hv]

/-- Without a match the ranked verdict is kept, and nothing is asked for (R165). -/
theorem endCollection_of_no_match (hv : acceptedVerdict s.straps.position.val (verdictList s) = none) :
    endCollection s = searchEnded (rankedVerdict (verdictList s)) s := by
  rw [endCollection_of_decided h hi, hv]

end

end Sys2Proof.Machine

/-- Settles O58: the rows of the search unit, the decision by the zone and the accepted verdict, the own SEARCH by what
the link answers, and the ranks of a list. -/
theorem searchRows : Obligations.SearchRows := by
  refine ⟨fun s ha => ⟨fun t hw => ?_, fun t hw => ?_, fun k => exec_slotStart ha, fun k hd => ⟨?_, ?_⟩,
    lfBurst_iff ha, exec_collectingStart ha, exec_collectionEnd ha⟩, ?_, ?_, ?_⟩
  · rw [exec_wakeWaitEnd ha (by rw [hw]; rfl), waitOver_of_first hw]
    refine ⟨fun h => ?_, fun h => ?_⟩
    · rw [if_pos h]
    · rw [if_neg (by simpa using h)]
  · rw [exec_wakeWaitEnd ha (by rw [hw]; rfl), waitOver_of_second hw]
  · rw [exec_slotEnd true ha hd, slotOver_of_reached hd]
  · rw [exec_slotEnd false ha hd, slotOver_of_open ((active_iff_operating s).mp ha).2 hd]
  · intro s list own ended
    refine ⟨endCollection_of_no_zone, fun z hz => ⟨fun hlock hi => ?_, fun hi => ?_⟩⟩
    · subst hlock
      exact endCollection_of_inside hz hi
    · intro matched
      have hmatched (v : Verdict) : searchEnded v (zoneRequest z s) = matched v := by cases z <;> rfl
      refine ⟨fun hat => ?_, fun hat hnear => ?_, fun hat hnear => ?_⟩
      · exact (endCollection_of_match hz hi (acceptedVerdict_of_at hat)).trans (hmatched _)
      · exact (endCollection_of_match hz hi (acceptedVerdict_of_near hat hnear)).trans (hmatched _)
      · exact endCollection_of_no_match hz hi (acceptedVerdict_of_none hat hnear)
  · intro s t r
    exact ⟨fun h => (placeSearch_eq s).trans (if_pos h), fun h => (placeSearch_eq s).trans (if_neg h)⟩
  · exact fun l => ⟨rankedVerdict_of_inside, fun _ _ _ => rankedVerdict_of_at, fun _ _ _ => rankedVerdict_of_near,
      rankedVerdict_of_none⟩

end

section
/-! SUPPORT. Localisation: the excluded slots, the adjusted readings, and the verdict by the leading door (R163, R164). -/

open Sys2Proof Sys2Proof.Machine Sys2Proof.Safety Sys2Proof.Claims

namespace Sys2Proof.Machine

/-! ## Adjusted readings (R163) -/

section
variable {s : State} {k : Fin 6}

/-- The station that drives slot `k` (R159). -/
def slotOwner (k : Fin 6) : Fin 8 := ⟨min k.val 4, by omega⟩

/-- What this station knows of an open coil at the owner of slot `k`: its own flag, or the owner's last STATE (R163). -/
def coilKnownOpen (s : State) (k : Fin 6) : Prop :=
  (slotOwner k = s.straps.position ∧ s.search.coilOpen = true) ∨
  (slotOwner k ≠ s.straps.position ∧
    ∃ c, (s.roster.peers[slotOwner k]).lastState = some c ∧ c.summary.getLsbD 13 = true)

theorem slotStation_eq_ownNumber_iff : slotStation k = (ownNumber s).val ↔ slotOwner k = s.straps.position :=
  Fin.val_inj (a := slotOwner k)

theorem slotExcluded_iff :
    slotExcluded s k = true ↔
      s.search.slots.getLsbD k.val = false ∨ expectedStation s.straps.body (slotOwner k).val = false ∨
        coilKnownOpen s k := by
  have hlt : slotStation k < 8 := (slotOwner k).isLt
  have hpeer : s.roster.peers[slotStation k]'hlt = s.roster.peers[slotOwner k] := rfl
  simp only [slotExcluded, Bool.or_eq_true, Bool.not_eq_true', or_assoc, hpeer]
  refine or_congr_right (or_congr Iff.rfl ?_)
  rw [coilKnownOpen]
  generalize s.roster.peers[slotOwner k] = p
  by_cases hown : slotOwner k = s.straps.position
  · simp [slotStation_eq_ownNumber_iff, hown]
  · cases p.lastState <;> simp [slotStation_eq_ownNumber_iff, hown]

variable {readings : List Byte}

theorem adjusted_of_silent (h : slotExcluded s k = true ∨ (readings.getD k.val 0).toNat = 0) :
    adjusted s readings k = 0 :=
  if_pos (by simpa using h)

/-- A slot that counts gets its offset, within 1 to 255. -/
theorem adjusted_of_heard (hs : ¬ slotExcluded s k = true) (hr : (readings.getD k.val 0).toNat ≠ 0) :
    (adjusted s readings k : Int) =
      max 1 (min 255 (((readings.getD k.val 0).toNat : Int) + s.settings.options.offsets[k])) := by
  have hno : ¬ ((slotExcluded s k || (readings.getD k.val 0).toNat == 0) = true) := by
    rw [Bool.or_eq_true, beq_iff_eq, not_or]
    exact ⟨hs, hr⟩
  rw [adjusted, if_neg hno]
  exact Int.toNat_of_nonneg (by omega)

end

/-! ## The largest reading -/

theorem foldl_max_le_iff (l : List Nat) (b m : Nat) : l.foldl max b ≤ m ↔ b ≤ m ∧ ∀ x ∈ l, x ≤ m := by
  induction l generalizing b with
  | nil => simp
  | cons x l ih => rw [List.foldl_cons, ih, max_le_iff, List.forall_mem_cons, and_assoc]

theorem largest_le_iff (l : List Nat) (m : Nat) : largest l ≤ m ↔ ∀ x ∈ l, x ≤ m := by
  rw [largest, foldl_max_le_iff]
  exact and_iff_right (Nat.zero_le m)

section
variable (a : Fin 5 → Nat) (m : Nat)

theorem largest_doors_le_iff : largest (List.ofFn a) ≤ m ↔ ∀ k, a k ≤ m := by
  rw [largest_le_iff, List.forall_mem_ofFn_iff]

/-- The second reading: the largest of those at the other doors. -/
theorem largest_others_le_iff (d : Fin 5) :
    largest ((List.ofFn a).eraseIdx d.val) ≤ m ↔ ∀ k, k ≠ d → a k ≤ m := by
  simp only [largest_le_iff, List.mem_eraseIdx_iff_getElem, List.getElem_ofFn]
  constructor
  · intro h k hk
    exact h (a k) ⟨k.val, by simp, by simpa [Fin.val_inj] using hk, rfl⟩
  · rintro h _ ⟨i, hi, hne, rfl⟩
    exact h _ fun hd => hne (congrArg Fin.val hd)

end

/-! ## The verdict (R164) -/

section
variable {a : Fin 5 → Nat} {cabin : Nat}

/-- The cabin is near or above the best door (R164). -/
def cabinLeads (a : Fin 5 → Nat) (cabin : Nat) : Prop := 120 ≤ cabin ∧ ∀ k, a k ≤ cabin + 12

theorem locate_of_cabin (h : cabinLeads a cabin) : locate (List.ofFn a) cabin = .inside :=
  if_pos ⟨h.1, (largest_doors_le_iff a _).mpr h.2⟩

variable {d : Fin 5}

/-- A tie goes to the lowest door. -/
theorem findIdx_leading_door (hfirst : ∀ k, k < d → a k < a d) :
    (List.ofFn a).findIdx (fun x => x == a d) = d.val := by
  rw [List.findIdx_eq (by simp only [List.length_ofFn, d.isLt])]
  simp only [List.getElem_ofFn, beq_self_eq_true, beq_eq_false_iff_ne, true_and]
  exact fun j hj => (hfirst ⟨j, by omega⟩ hj).ne

/-- The margin over the second reading is a margin over each other door. -/
theorem margin_iff (htop : 60 ≤ a d) :
    locMsep ≤ a d - largest ((List.ofFn a).eraseIdx d.val) ↔ ∀ k, k ≠ d → a k + 8 ≤ a d := by
  have hshift (m : Nat) : m ≤ a d - 8 ↔ m + 8 ≤ a d := by omega
  simp only [← hshift, ← largest_others_le_iff, locMsep]
  omega

section
variable (hmax : ∀ k, a k ≤ a d)
include hmax

theorem largest_doors_eq : largest (List.ofFn a) = a d :=
  le_antisymm ((largest_doors_le_iff a _).mpr hmax) ((largest_doors_le_iff a _).mp le_rfl d)

/-- Without a lead of the cabin the leading door decides, by its own reading and by its margin (R164). -/
theorem locate_of_door (hfirst : ∀ k, k < d → a k < a d) (hno : ¬ cabinLeads a cabin) :
    locate (List.ofFn a) cabin =
      if 60 ≤ a d then if ∀ k, k ≠ d → a k + 8 ≤ a d then .outsideAt d else .outsideNear d else .notFound := by
  have hcabin : ¬ (locTin ≤ cabin ∧ a d ≤ cabin + locMin) := by
    rw [← largest_doors_eq hmax, largest_doors_le_iff]
    exact hno
  have hdoor : capFin 4 d.val = d := Fin.ext (min_eq_left (by omega))
  simp only [locate, largest_doors_eq hmax, if_neg hcabin, findIdx_leading_door hfirst, hdoor]
  by_cases htop : 60 ≤ a d
  · simp only [locTout, if_pos htop, margin_iff htop]
  · rw [if_neg htop]
    exact if_neg htop

end

end

end Sys2Proof.Machine

/-- Settles O59: a slot's reading by its exclusion, and the verdict by the lead of the cabin or of a door. -/
theorem localisation : Obligations.Localisation := by
  refine ⟨fun s readings k => ?_, fun s readings => rfl, fun a cabin => ?_⟩
  · intro owner coilOpen excluded r
    have hexcluded : slotExcluded s k = true ↔ excluded := slotExcluded_iff
    exact ⟨fun h => adjusted_of_silent (h.imp_left hexcluded.mpr),
      fun hs hr => adjusted_of_heard (hexcluded.not.mpr hs) hr⟩
  · intro doors inside
    have hdoors : doors = List.ofFn a := rfl
    rw [hdoors]
    refine ⟨locate_of_cabin, fun hno d hmax hfirst => ?_⟩
    rw [locate_of_door hmax hfirst hno]
    refine ⟨fun htop hsep => ?_, fun htop ⟨k, hk, hnear⟩ => ?_, fun hlow => ?_⟩
    · rw [if_pos htop, if_pos hsep]
    · rw [if_pos htop, if_neg fun hsep => absurd (hsep k hk) (by omega)]
    · rw [if_neg (by omega)]

end

section
/-! SUPPORT. The counter window of a verified fob report (R170): its outcomes, and what each makes of the entry. -/

open Sys2Proof Sys2Proof.Machine Sys2Proof.Safety Sys2Proof.Claims

namespace Sys2Proof.Machine

/-- The report is one of the two successors of the entry's resync candidate (R170). -/
def Resyncs (r : FobReport) (e : Fob) : Prop :=
  ∃ k, e.candidate = some k ∧ (r.counter.toNat = k.toNat + 1 ∨ r.counter.toNat = k.toNat + 2)

/-- The report repeats the last accepted one (R170). -/
def Repeats (r : FobReport) (e : Fob) : Prop := r.counter.toNat = e.counter.toNat ∧ e.lastTag = some r.tag

variable {r : FobReport} {e : Fob}

/-! ## The tests in order -/

theorem counterWindow_of_repeats (h : Repeats r e) : counterWindow r e = .duplicate := if_pos h

theorem counterWindow_of_resyncs (hd : ¬ Repeats r e) (h : Resyncs r e) : counterWindow r e = .accepted := by
  obtain ⟨k, hk, hc⟩ := h
  unfold counterWindow
  refine (if_neg hd).trans (if_pos ?_)
  simpa [hk] using hc

/-- Without a resync, the window over the last accepted counter decides (R170). -/
theorem counterWindow_of_not_resyncs (hd : ¬ Repeats r e) (h : ¬ Resyncs r e) :
    counterWindow r e =
      if e.counter.toNat + 1 ≤ r.counter.toNat ∧ r.counter.toNat ≤ e.counter.toNat + 32 then .accepted
      else if e.counter.toNat + 33 ≤ r.counter.toNat ∧ r.counter.toNat ≤ e.counter.toNat + 4096 then .candidate
      else .rejected := by
  unfold counterWindow
  refine (if_neg hd).trans (if_neg ?_)
  cases hk : e.candidate with
  | none => simp
  | some k => simpa using not_or.mp fun hc => h ⟨k, hk, hc⟩

theorem counterWindow_of_near (hd : ¬ Repeats r e) (hlo : e.counter.toNat + 1 ≤ r.counter.toNat)
    (hhi : r.counter.toNat ≤ e.counter.toNat + 32) : counterWindow r e = .accepted := by
  by_cases h : Resyncs r e
  · exact counterWindow_of_resyncs hd h
  · rw [counterWindow_of_not_resyncs hd h, if_pos ⟨hlo, hhi⟩]

theorem counterWindow_of_far (hd : ¬ Repeats r e) (h : ¬ Resyncs r e) (hlo : e.counter.toNat + 33 ≤ r.counter.toNat)
    (hhi : r.counter.toNat ≤ e.counter.toNat + 4096) : counterWindow r e = .candidate := by
  rw [counterWindow_of_not_resyncs hd h, if_neg (by omega), if_pos ⟨hlo, hhi⟩]

theorem counterWindow_of_outside (hd : ¬ Repeats r e) (h : ¬ Resyncs r e)
    (hout : r.counter.toNat ≤ e.counter.toNat ∨ e.counter.toNat + 4096 < r.counter.toNat) :
    counterWindow r e = .rejected := by
  rw [counterWindow_of_not_resyncs hd h, if_neg (by omega), if_neg (by omega)]

/-! ## The outcomes -/

/-- What each outcome says of the report's counter: one that is accepted or made the candidate lies ahead of the last
accepted counter, unless the candidate itself brings it in (R170). -/
theorem counterWindow_cases (r : FobReport) (e : Fob) :
    counterWindow r e = .duplicate ∨
    (counterWindow r e = .accepted ∧ (Resyncs r e ∨ e.counter.toNat < r.counter.toNat)) ∨
    (counterWindow r e = .candidate ∧ e.counter.toNat < r.counter.toNat) ∨
    counterWindow r e = .rejected := by
  by_cases hd : Repeats r e
  · exact .inl (counterWindow_of_repeats hd)
  by_cases h : Resyncs r e
  · exact .inr (.inl ⟨counterWindow_of_resyncs hd h, .inl h⟩)
  rw [counterWindow_of_not_resyncs hd h]
  split_ifs with hnear hfar
  · exact .inr (.inl ⟨rfl, .inr (by omega)⟩)
  · exact .inr (.inr (.inl ⟨rfl, by omega⟩))
  · exact .inr (.inr (.inr rfl))

end Sys2Proof.Machine

/-- Settles O33: the tests of the window in order, each with its entry. -/
theorem fobCounterWindow : Obligations.FobCounterWindow := by
  intro r e diff duplicate resync x
  have hdup : Repeats r e ↔ duplicate := and_congr_left' (by omega)
  refine ⟨fun hd => ?_, fun hd h => ?_, fun hd hr hlo hhi => ?_, fun hd hr hout => ?_⟩
  · have hx : x = .duplicate := counterWindow_of_repeats (hdup.mpr hd)
    exact ⟨hx, by rw [hx]; rfl⟩
  · have hx : x = .accepted := by
      rcases h with hr | ⟨hlo, hhi⟩
      · exact counterWindow_of_resyncs (hdup.not.mpr hd) hr
      · exact counterWindow_of_near (hdup.not.mpr hd) (by omega) (by omega)
    exact ⟨hx, by rw [hx]; rfl⟩
  · have hx : x = .candidate := counterWindow_of_far (hdup.not.mpr hd) hr (by omega) (by omega)
    exact ⟨hx, by rw [hx]; rfl⟩
  · have hx : x = .rejected := counterWindow_of_outside (hdup.not.mpr hd) hr (by omega)
    exact ⟨hx, by rw [hx]; rfl⟩

end

section
/-! SUPPORT. The operations that leave the fob table alone, in the order of the model: every one but the fob check
unit's, an ENROL and a start (R168, R170, R173). -/

open Sys2Proof Sys2Proof.Machine Sys2Proof.Safety Sys2Proof.Claims

namespace Sys2Proof.Machine

variable (s : State)

/-! ## The end of an event, wakes and captures -/

@[simp] theorem conclude_fobs : (conclude s).fobs = s.fobs := by
  rw [conclude_endedAs]
  rfl

@[simp] theorem wake_fobs : (wake s).fobs = s.fobs := by
  unfold wake
  split
  · exact placeState_fobs (wakeBlocks s)
  · rfl

@[simp] theorem capture_fobs (k : FaultKind) (a b c : Byte) : (capture k a b c s).fobs = s.fobs := by
  simp [capture]

@[simp] theorem inputChange_fobs (i : SwitchInput) : (inputChange i s).fobs = s.fobs := wake_fobs s

/-! ## Latch drive and lock logic -/

@[simp] theorem withTimeout_fobs (r : Latch × Bool) : (withTimeout r s).fobs = s.fobs := by
  simp only [withTimeout]
  split <;> simp

@[simp] theorem takeLock_fobs (src : ActionSource) (c : LockCause) (n : Byte) (own : Bool) :
    (takeLock src c n own s).fobs = s.fobs := by
  rw [takeLock_frame]

@[simp] theorem takeDeadlock_fobs (src : ActionSource) (c : LockCause) (n : Byte) (own : Bool) :
    (takeDeadlock src c n own s).fobs = s.fobs := by
  simp only [takeDeadlock]
  split_ifs <;> simp

@[simp] theorem takeUnlock_fobs (src : ActionSource) (c : LockCause) (own : Bool) :
    (takeUnlock src c own s).fobs = s.fobs := rfl

@[simp] theorem takeRequest_fobs (a : CentralAction) (src : ActionSource) (c : LockCause) (n : Byte) (own : Bool) :
    (takeRequest a src c n own s).fobs = s.fobs := by
  cases a
  case deadlock => simp only [takeRequest]; split <;> simp
  all_goals simp [takeRequest]

@[simp] theorem placeRequest_fobs (a : CentralAction) (c : LockCause) (n : Byte) :
    (placeRequest a c n s).fobs = s.fobs := by
  simp only [placeRequest]
  split <;> simp

@[simp] theorem requestOutcome_fobs (q : Byte) (confirmed : Bool) : (requestOutcome q confirmed s).fobs = s.fobs := by
  simp only [requestOutcome]
  repeat' split
  all_goals simp

@[simp] theorem driveAwayTest_fobs : (driveAwayTest s).fobs = s.fobs := by
  simp only [driveAwayTest]
  split_ifs <;> simp

@[simp] theorem peerChange_fobs (n : Fin 8) (opened : Bool) : (peerChange n opened s).fobs = s.fobs := by
  simp only [peerChange]
  split <;> simp

@[simp] theorem vehicleChangeLock_fobs : (vehicleChangeLock s).fobs = s.fobs := by
  simp only [vehicleChangeLock]
  split <;> simp

@[simp] theorem doorChange_fobs (b : Bool) : (doorChange b s).fobs = s.fobs := by
  have hlatch : ∀ u, (doorOpenLatch u).fobs = u.fobs := fun u => by rw [doorOpenLatch]; split <;> simp
  have hlock : ∀ u, (followUpLock u).fobs = u.fobs := fun u => by simp only [followUpLock]; split_ifs <;> simp
  simp only [doorChange]
  split_ifs <;> simp [hlatch, hlock]

@[simp] theorem releaseRequest_fobs : (releaseRequest s).fobs = s.fobs := by
  simp only [releaseRequest]
  repeat' split
  all_goals rfl

@[simp] theorem handlePull_fobs : (handlePull s).fobs = s.fobs := by
  rw [handlePull]
  split <;> simp

@[simp] theorem keyLock_fobs : (keyLock s).fobs = s.fobs := by
  unfold keyLock
  split <;> simp

/-! ## Window drive -/

@[simp] theorem endMove_fobs (m : Manner) (a b : Bool) (r : StopReason) : (endMove m a b r s).fobs = s.fobs := by
  have hand : ∀ u, (handAccumulators a u).fobs = u.fobs := fun u => by
    simp only [handAccumulators]; split_ifs <;> simp
  rw [endMove]
  split <;> simp [hand]

@[simp] theorem thermalEnd_fobs : (thermalEnd s).fobs = s.fobs := by
  rw [thermalEnd]
  split <;> simp

@[simp] theorem startRun_fobs (m : Move) : (startRun m s).fobs = s.fobs := by
  simp only [startRun]
  split <;> simp

@[simp] theorem takeMove_fobs (m : Move) : (takeMove m s).fobs = s.fobs := by
  simp only [takeMove]
  repeat' split
  all_goals simp

@[simp] theorem takeCommand_fobs (c : Command) : (takeCommand c s).fobs = s.fobs := by
  simp only [takeCommand]
  split_ifs <;> simp

@[simp] theorem endIf_fobs (m : Manner) (f : Move → Bool) (b : Bool) : (endIf m f b s).fobs = s.fobs := by
  unfold endIf
  repeat' split
  all_goals simp

@[simp] theorem ownSwitchChange_fobs (c : SwitchCommand) : (ownSwitchChange c s).fobs = s.fobs := by
  cases c <;> simp [ownSwitchChange, releaseSwitch]

@[simp] theorem windowRequest_fobs (a : WindowAction) : (windowRequest a s).fobs = s.fobs := by
  have hmanual : ∀ d, (packManual d s).fobs = s.fobs := fun d => by
    simp only [packManual]
    repeat' split
    all_goals simp
  cases a <;> simp [windowRequest, packAuto, packStop, hmanual]

@[simp] theorem setKnowledge_fobs (k : Knowledge) : (setKnowledge k s).fobs = s.fobs := by
  rw [setKnowledge]
  split <;> simp

@[simp] theorem unexpectedEdge_fobs : (unexpectedEdge s).fobs = s.fobs := by
  simp only [unexpectedEdge]
  split_ifs <;> simp

@[simp] theorem bottomEnd_fobs : (bottomEnd s).fobs = s.fobs := by
  rw [bottomEnd]
  split <;> simp

@[simp] theorem blocked_fobs : (blocked s).fobs = s.fobs := endMove_fobs ..

@[simp] theorem topEnd_fobs (t : Nat) : (topEnd t s).fobs = s.fobs := endMove_fobs ..

@[simp] theorem learnTop_fobs : (learnTop s).fobs = s.fobs := by
  simp only [learnTop]
  repeat' split
  all_goals simp

@[simp] theorem declarePinch_fobs : (declarePinch s).fobs = s.fobs := by
  unfold declarePinch
  split <;> simp

@[simp] theorem stalled_fobs : (stalled s).fobs = s.fobs := by
  simp only [stalled]
  repeat' split
  all_goals simp

@[simp] theorem reversalStep_fobs : (reversalStep s).fobs = s.fobs := by
  simp only [reversalStep]
  repeat' split
  all_goals simp

@[simp] theorem hallEdge_fobs : (hallEdge s).fobs = s.fobs := by
  have hdriven : ∀ r, (drivenStep r s).fobs = s.fobs := fun r => by
    simp only [drivenStep]
    repeat' split
    all_goals simp
  simp only [hallEdge]
  repeat' split
  all_goals simp [hdriven]

@[simp] theorem placeWindowreq_fobs (k : Fin 4) (a : WindowAction) : (placeWindowreq k a s).fobs = s.fobs := by
  simp [placeWindowreq]

@[simp] theorem packChange_fobs (k : Fin 4) (b a : SwitchPos) : (packChange k b a s).fobs = s.fobs := by
  simp only [packChange]
  repeat' split
  all_goals simp

@[simp] theorem crankWindow_fobs : (crankWindow s).fobs = s.fobs := endIf_fobs ..
@[simp] theorem childOnWindow_fobs : (childOnWindow s).fobs = s.fobs := endIf_fobs ..

@[simp] theorem startGlobal_fobs (d : Dir) : (startGlobal d s).fobs = s.fobs := by
  simp only [startGlobal]
  split_ifs <;> simp

@[simp] theorem globalFrame_fobs (d : Dir) : (globalFrame d s).fobs = s.fobs := by
  have hrenew : ∀ u, (renewGlobal d u).fobs = u.fobs := fun u => by rw [renewGlobal]; split <;> simp
  simp only [globalFrame]
  split_ifs <;> simp [hrenew]

@[simp] theorem endGlobal_fobs (d : Dir) : (endGlobal d s).fobs = s.fobs := by
  rw [endGlobal]
  split <;> simp

/-! ## The timers of window drive, and the passing of time -/

@[simp] theorem windowBrakeOver_fobs : (windowBrakeOver s).fobs = s.fobs := by
  unfold windowBrakeOver
  split <;> simp

@[simp] theorem overcurrentStop_fobs : (overcurrentStop s).fobs = s.fobs := by simp [overcurrentStop]
@[simp] theorem openLoadStop_fobs : (openLoadStop s).fobs = s.fobs := by simp [openLoadStop]
@[simp] theorem heatTick_fobs : (heatTick s).fobs = s.fobs := by simp [heatTick]
@[simp] theorem leaseOver_fobs : (leaseOver s).fobs = s.fobs := endMove_fobs ..
@[simp] theorem excursionOver_fobs : (excursionOver s).fobs = s.fobs := endMove_fobs ..
@[simp] theorem coastOver_fobs : (coastOver s).fobs = s.fobs := rfl
@[simp] theorem rampOver_fobs : (rampOver s).fobs = s.fobs := rfl
@[simp] theorem coolTick_fobs : (coolTick s).fobs = s.fobs := rfl
@[simp] theorem counterOver_fobs : (counterOver s).fobs = s.fobs := rfl
@[simp] theorem spentHoldOver_fobs : (spentHoldOver s).fobs = s.fobs := rfl
@[simp] theorem globalSpentOver_fobs : (globalSpentOver s).fobs = s.fobs := rfl

@[simp] theorem expire_fobs (x : WindowTimer) : (expire x s).fobs = s.fobs := by cases x <;> simp [expire]

@[simp] theorem elapse_fobs (n : Nat) : (elapse n s).fobs = s.fobs := (elapse_frame s n).2.2.1

@[simp] theorem elapseTimers_fobs (k n : Nat) : (elapseTimers k n s).fobs = s.fobs := by
  induction k generalizing n s with
  | zero => exact elapse_fobs s n
  | succ k ih =>
    simp only [elapseTimers]
    repeat' split
    all_goals simp [ih]

/-! ## Child safety and crash response -/

@[simp] theorem takeChildRequest_fobs (on : Bool) : (takeChildRequest on s).fobs = s.fobs := by
  rw [takeChildRequest]
  split <;> rfl

@[simp] theorem endChildPulse_fobs : (endChildPulse s).fobs = s.fobs := by
  simp only [endChildPulse]
  repeat' split
  all_goals simp

@[simp] theorem childPress_fobs : (childPress s).fobs = s.fobs := by
  simp only [childPress]
  split <;> simp

@[simp] theorem crashEntry_fobs : (crashEntry s).fobs = s.fobs := by
  have hhold : (setCrashHold s).fobs = s.fobs := by simp only [setCrashHold]; split <;> simp
  rw [crashEntry_eq, endMove_fobs]
  exact hhold

@[simp] theorem ownCrash_fobs : (ownCrash s).fobs = s.fobs := by simp [ownCrash]

@[simp] theorem setCrashNumber_fobs (n : Fin 8) (x : Byte) : (setCrashNumber n x s).fobs = s.fobs := by
  rw [setCrashNumber]
  split <;> rfl

@[simp] theorem takeCrash_fobs (n : Fin 8) (x : Byte) : (takeCrash n x s).fobs = s.fobs := by
  simp only [takeCrash]
  split_ifs <;> simp

/-! ## The search unit and the touch scanner -/

@[simp] theorem resumeTouch_fobs : (resumeTouch s).fobs = s.fobs := rfl
@[simp] theorem abandonSearch_fobs : (abandonSearch s).fobs = s.fobs := rfl

@[simp] theorem placeSearch_fobs : (placeSearch s).fobs = s.fobs := by
  simp only [placeSearch]
  split_ifs <;> simp

@[simp] theorem touchSearch_fobs (z : Zone) (woke : Bool) : (touchSearch z woke s).fobs = s.fobs := by
  have hstart : (startSearch z woke s).fobs = s.fobs := by simp only [startSearch]; split <;> simp
  unfold touchSearch
  repeat' split
  all_goals simp [hstart]

@[simp] theorem searchOutcome_fobs (t : Telegram) (sent : Bool) : (searchOutcome t sent s).fobs = s.fobs := by
  rw [searchOutcome]
  split_ifs <;> rfl

@[simp] theorem stateAttemptEnded_fobs : (stateAttemptEnded s).fobs = s.fobs := by
  rw [stateAttemptEnded]
  split <;> rfl

@[simp] theorem decideSearch_fobs (z : Zone) : (decideSearch z s).fobs = s.fobs := by
  simp only [decideSearch]
  repeat' split
  all_goals simp

@[simp] theorem endCollection_fobs : (endCollection s).fobs = s.fobs := by
  simp only [endCollection]
  split <;> simp

@[simp] theorem joinSearch_fobs (keep : Bool) (x : Byte) (y : BitVec 6) (t : Nat) :
    (joinSearch keep x y t s).fobs = s.fobs := by
  simp only [joinSearch]
  repeat' split
  all_goals simp

@[simp] theorem takeSearch_fobs (x : Byte) (y : BitVec 6) (t : Nat) : (takeSearch x y t s).fobs = s.fobs := by
  unfold takeSearch
  split <;> simp

@[simp] theorem takeReadings_fobs (f : Fin 4) (n : Byte) (r : List Byte) : (takeReadings f n r s).fobs = s.fobs := by
  unfold takeReadings
  repeat' split
  all_goals rfl

@[simp] theorem waitOver_fobs : (waitOver s).fobs = s.fobs := by
  unfold waitOver
  repeat' split
  all_goals simp

@[simp] theorem slotOver_fobs (b : Bool) : (slotOver b s).fobs = s.fobs := by
  unfold slotOver
  repeat' split
  all_goals simp

@[simp] theorem startPeriod_fobs : (startPeriod s).fobs = s.fobs := rfl

@[simp] theorem touchEvent_fobs (z : Zone) (woke : Bool) : (touchEvent z woke s).fobs = s.fobs := by
  rw [touchEvent]
  split_ifs <;> simp

@[simp] theorem measurementOver_fobs (c : Nat) : (measurementOver c s).fobs = s.fobs := by
  have hkept : ∀ i e u, (afterKept i e u).fobs = u.fobs := fun i e u => by
    simp only [afterKept]; split_ifs <;> simp
  have hmeasure : ∀ i, (measure i c s).fobs = s.fobs := fun i => by
    simp only [measure]; split_ifs <;> simp [hkept]
  unfold measurementOver
  split
  · rfl
  · exact hmeasure _

/-! ## Settings, services but ENROL, and dispatched reports -/

@[simp] theorem startWrite_fobs : (startWrite s).fobs = s.fobs := by
  unfold startWrite
  split <;> rfl

@[simp] theorem placeAnswer_fobs (k : Subtype) (r : Byte) : (placeAnswer k r s).fobs = s.fobs := by
  simp [placeAnswer]

@[simp] theorem endWrite_fobs (ok : Bool) : (endWrite ok s).fobs = s.fobs := by
  have hanswer : ∀ r u, (answerWrite r ok u).fobs = u.fobs := fun r u => by
    simp only [answerWrite]
    repeat' split
    all_goals simp
  simp only [endWrite]
  split
  · rfl
  · rw [hanswer]
    split <;> simp

@[simp] theorem awaitWrite_fobs (k : Subtype) (r : RecordName) : (awaitWrite k r s).fobs = s.fobs := rfl

theorem applyService_fobs_of_ne {k : Subtype} (args : List Byte) (h : k ≠ .enrol) :
    (applyService k args s).fobs = s.fobs := by
  cases k
  case enrol => exact absurd rfl h
  case option => simp only [applyService, applyOption]; split <;> simp
  all_goals simp [applyService, applyClearfault, applyForget]

theorem takeService_fobs_of_ne {k : Subtype} (t : Byte) (args : List Byte) (h : k ≠ .enrol) :
    (takeService k t args s).fobs = s.fobs := by
  rw [takeService]
  split_ifs <;> simp [applyService_fobs_of_ne s args h]

@[simp] theorem dispatchReport_fobs (ownLine : Bool) (r : FobReport) : (dispatchReport ownLine r s).fobs = s.fobs := by
  have hlock : (fobLock r.fob r.counter s).fobs = s.fobs := by rw [fobLock]; split <;> simp
  have hunlock : (fobUnlock r.fob r.counter s).fobs = s.fobs := by rw [fobUnlock]; split <;> simp
  unfold dispatchReport
  cases r.command <;> dsimp only [fobLockWindow, fobUnlockWindow]
  case lock | unlock | tailgate => split <;> simp [hlock, hunlock]
  all_goals simp

/-! ## The roster and taken telegrams -/

@[simp] theorem clearFilters_fobs (n : Fin 8) : (clearFilters n s).fobs = s.fobs := by simp [clearFilters]

@[simp] theorem evidence_fobs (n : Fin 8) : (evidence n s).fobs = s.fobs := by rw [evidence_frame]

@[simp] theorem takeState_fobs (n : Fin 8) (c : StateContents) : (takeState n c s).fobs = s.fobs := by
  simp only [takeState]
  split_ifs <;> simp

@[simp] theorem vehicleChange_fobs (old : Vehicle) : (vehicleChange old s).fobs = s.fobs := by
  simp only [vehicleChange]
  split_ifs <;> simp

@[simp] theorem takeVehicle_fobs (v : Byte) (i : Ignition) : (takeVehicle v i s).fobs = s.fobs := by
  simp only [takeVehicle, vehicleChange_fobs]
  split <;> rfl

@[simp] theorem takeCentral_fobs (n : Fin 8) (a : CentralAction) (c : LockCause) (q x : Byte) :
    (takeCentral n a c q x s).fobs = s.fobs := by
  rw [takeCentral, filterLockreq]
  split <;> simp

@[simp] theorem takeChild_fobs (n : Fin 8) (on : Bool) (q : Byte) : (takeChild n on q s).fobs = s.fobs := by
  rw [takeChild, filterLockreq]
  split <;> simp

@[simp] theorem takeWindowreq_fobs (n : Fin 8) (set : Byte) (a : WindowAction) (q : Byte) :
    (takeWindowreq n set a q s).fobs = s.fobs := by
  simp only [takeWindowreq, filterWindowreq]
  split_ifs <;> simp

/-! ## The zone bus link and power control -/

@[simp] theorem stateOutcome_fobs (collided : Bool) : (stateOutcome collided s).fobs = s.fobs := by
  rw [stateOutcome]
  split_ifs <;> rfl

@[simp] theorem trySettle_fobs : (trySettle s).fobs = s.fobs := by
  rw [trySettle]
  split <;> rfl

@[simp] theorem endAttempt_fobs (slots : Byte) (c : Bool) : (endAttempt slots c s).fobs = s.fobs := by
  have houtcome : ∀ left t u, (deliverOutcome c left t u).fobs = u.fobs := fun left t u => by
    unfold deliverOutcome
    repeat' split
    all_goals simp
  unfold endAttempt
  split
  · rfl
  · dsimp only
    rw [houtcome, apply_ite State.fobs, captureAwake_fobs, ite_self]
    rfl

@[simp] theorem powerReceived_fobs (t : Telegram) : (powerReceived t s).fobs = s.fobs := rfl
@[simp] theorem enterSleep_fobs : (enterSleep s).fobs = s.fobs := rfl

@[simp] theorem enterStuck_fobs : (enterStuck s).fobs = s.fobs := by
  have hdrop : ∀ u e, (dropEntry u e).fobs = u.fobs := fun u e => by
    unfold dropEntry
    repeat' split
    all_goals simp
  have hfold : ∀ (es : List TxEntry) (u : State), (es.foldl dropEntry u).fobs = u.fobs := fun es => by
    induction es with
    | nil => exact fun _ => rfl
    | cons e es ih => exact fun u => (ih _).trans (hdrop u e)
  simp [enterStuck, hfold]

@[simp] theorem takeSample_fobs (v : Nat) : (takeSample v s).fobs = s.fobs := by
  have hkeep : ∀ u, (keepSample v u).fobs = u.fobs := fun u => by simp only [keepSample]; split <;> rfl
  simp only [takeSample]
  split <;> simp [hkeep]

end Sys2Proof.Machine
end

section
/-! SUPPORT. The fob law over every step (R168, R170, R173): what an entry keeps where a report is counted, and that no
command but a start, a brown-out and an ENROL sets a counter back. -/

open Sys2Proof Sys2Proof.Machine Sys2Proof.Safety Sys2Proof.Claims

namespace Sys2Proof.Machine

/-! ## Entries -/

/-- A resync candidate stands ahead of the entry's counter: what `FobLaw` says of each entry. -/
def CandidateAhead (e : Fob) : Prop := ∀ k, e.candidate = some k → e.counter.toNat < k.toNat

theorem fobLaw_iff (s : State) : FobLaw s ↔ ∀ f : Fin 4, CandidateAhead s.fobs[f] := Iff.rfl

theorem candidateAhead_of_none {e : Fob} (h : e.candidate = none) : CandidateAhead e := by
  simp [CandidateAhead, h]

/-- A resync goes beyond the candidate, and so beyond the counter that the candidate is ahead of (R170). -/
theorem lt_counter_of_resyncs {r : FobReport} {e : Fob} (h : CandidateAhead e) (hr : Resyncs r e) :
    e.counter.toNat < r.counter.toNat := by
  obtain ⟨k, hk, hc⟩ := hr
  have hlt := h k hk
  omega

/-- A counted report keeps the candidate ahead, and takes the counter only forward (R170). -/
theorem countedEntry_ahead_and_rises (r : FobReport) {e : Fob} (h : CandidateAhead e) :
    CandidateAhead (countedEntry (counterWindow r e) r e) ∧
      e.counter.toNat ≤ (countedEntry (counterWindow r e) r e).counter.toNat := by
  rcases counterWindow_cases r e with hx | ⟨hx, hc⟩ | ⟨hx, hlt⟩ | hx <;> rw [hx]
  · exact ⟨h, le_rfl⟩
  · have hlt : e.counter.toNat < r.counter.toNat := hc.elim (lt_counter_of_resyncs h) id
    exact ⟨candidateAhead_of_none rfl, hlt.le⟩
  · exact ⟨fun k hk => Option.some.inj hk ▸ hlt, le_rfl⟩
  · exact ⟨candidateAhead_of_none rfl, le_rfl⟩

/-! ## Tables -/

/-- From the fob table `v` to `w` every candidate stays ahead of its counter, and unless `sets` allows it no counter
falls. -/
def FobsGoOn (sets : Bool) (v w : Vector Fob 4) : Prop :=
  (∀ f : Fin 4, CandidateAhead v[f]) →
    ∀ f : Fin 4, CandidateAhead w[f] ∧ (sets = false → v[f].counter.toNat ≤ w[f].counter.toNat)

theorem fobsGoOn_of_eq (sets : Bool) {v w : Vector Fob 4} (h : w = v) : FobsGoOn sets v w := by
  rw [h]
  exact fun hv f => ⟨hv f, fun _ => le_rfl⟩

/-- A table of entries without candidates, where counters may be set. -/
theorem fobsGoOn_of_no_candidate {v w : Vector Fob 4} (h : ∀ f : Fin 4, w[f].candidate = none) : FobsGoOn true v w :=
  fun _ f => ⟨candidateAhead_of_none (h f), nofun⟩

/-- A table of which one entry changes. -/
theorem fobsGoOn_set (sets : Bool) (v : Vector Fob 4) (f : Fin 4) {e : Fob}
    (h : CandidateAhead v[f] → CandidateAhead e ∧ (sets = false → v[f].counter.toNat ≤ e.counter.toNat)) :
    FobsGoOn sets v (v.set f.val e f.isLt) := by
  intro hv g
  by_cases hfg : f = g
  · subst hfg
    simpa using h (hv f)
  · have hne : f.val ≠ g.val := Fin.val_ne_of_ne hfg
    simpa [Vector.getElem_set, hne] using hv g

/-! ## The operations that write the table -/

/-- The fob check unit counts a verified report, and leaves the table alone otherwise (R169, R170). -/
theorem takeReport_fobsGoOn (own : Bool) (r : FobReport) (s : State) :
    FobsGoOn false s.fobs (takeReport own r s).fobs := by
  simp only [takeReport]
  have hcounted := fobsGoOn_set false s.fobs r.fob fun h =>
    (countedEntry_ahead_and_rises r h).imp_right fun hle (_ : false = false) => hle
  split_ifs
  · rw [dispatchReport_fobs]
    exact hcounted
  · exact hcounted
  · exact fobsGoOn_of_eq false rfl

theorem rfByte_fobsGoOn (v : Byte) (bad : Bool) (s : State) : FobsGoOn false s.fobs (rfByte v bad s).fobs := by
  have hcomplete : ∀ p u, FobsGoOn false u.fobs (frameComplete p u).fobs := by
    intro p u
    unfold frameComplete
    split
    · rename_i r _
      simpa using takeReport_fobsGoOn true r (place (ownTelegram u kFobreport p) u).1
    · exact fobsGoOn_of_eq false rfl
  have hassemble : FobsGoOn false s.fobs (assemble v bad s).fobs := by
    simp only [assemble]
    repeat' split
    case h_3 => exact hcomplete _ (onRf _ s)
    all_goals exact fobsGoOn_of_eq false rfl
  unfold rfByte
  split
  · refine fobsGoOn_of_eq false ?_
    split <;> simp
  · exact hassemble
  · exact fobsGoOn_of_eq false rfl

/-- An applied ENROL sets one entry, without a candidate (R173). -/
theorem takeService_fobsGoOn (k : Subtype) (target : Byte) (args : List Byte) (s : State) :
    FobsGoOn true s.fobs (takeService k target args s).fobs := by
  have happly : FobsGoOn true s.fobs (applyService k args s).fobs := by
    by_cases hk : k = .enrol
    · subst hk
      exact fobsGoOn_set true s.fobs (capFin 3 (args.getD 0 0).toNat) fun _ =>
        ⟨candidateAhead_of_none rfl, nofun⟩
    · exact fobsGoOn_of_eq true (applyService_fobs_of_ne s args hk)
  rw [takeService]
  split_ifs
  case neg => exact happly
  all_goals exact fobsGoOn_of_eq true (by simp)

/-- A station that starts, or is held in reset, has the stored entries (R168, R177). -/
theorem booted_fobsGoOn (i : PowerOnInputs) (v : Vector Fob 4) (s : State) : FobsGoOn true v (booted i s).fobs :=
  fobsGoOn_of_no_candidate fun f => by rw [booted_fobs]; rfl

/-! ## Every command -/

/-- The outcome of a command takes the fob table on. -/
def KeepsFobs (sets : Bool) (s : State) (o : Host.Outcome State Fault Refusal) : Prop :=
  ∀ t, o = .next t → FobsGoOn sets s.fobs t.fobs

variable {s : State} {sets : Bool}

theorem goOn_keepsFobs {u : State} (h : FobsGoOn sets s.fobs u.fobs) : KeepsFobs sets s (goOn u) := by
  rintro _ ⟨⟩
  exact h

/-- An event keeps the fobs where its effect does under the condition of the event. -/
theorem event_keepsFobs (c : Bool) (f : State → State) (h : c = true → FobsGoOn sets s.fobs (f s).fobs) :
    KeepsFobs sets s (event c f s) := by
  cases c
  · exact goOn_keepsFobs (fobsGoOn_of_eq sets rfl)
  · exact goOn_keepsFobs (by simpa using h rfl)

theorem event_keepsFobs_of_eq (c : Bool) (f : State → State) (h : (f s).fobs = s.fobs) :
    KeepsFobs sets s (event c f s) := event_keepsFobs c f fun _ => fobsGoOn_of_eq sets h

/-- A taking keeps the fobs where its block's part does with the messages of its row. -/
theorem taking_keepsFobs (row : Instr) (f : Message → Nat → State → State)
    (hf : ∀ m n u, takingOf m = row → FobsGoOn sets u.fobs (f m n u).fobs) : KeepsFobs sets s (taking row f s) := by
  unfold taking
  split
  · rename_i m n _
    refine event_keepsFobs _ _ fun hc => ?_
    have hrow : takingOf m = row := of_decide_eq_true (Bool.and_eq_true_iff.mp hc).2
    simpa using hf m n (popRx s) hrow
  · exact goOn_keepsFobs (fobsGoOn_of_eq sets rfl)

/-- The owners of telegrams other than SERVICE and FOBREPORT leave the fobs alone. -/
theorem owners_fobs (m : Message) (n : Nat) (u : State) :
    ∀ f ∈ [onCentral, onChild, onWindowreq, onEvidence, onState, onVehicle, onPinchTelegram, onSearchTelegram, onCrash],
      (f m n u).fobs = u.fobs := by
  cases m <;>
    simp [onCentral, onChild, onWindowreq, onEvidence, onState, onVehicle, onPinchTelegram, peerPinch,
      onSearchTelegram, onCrash]

theorem takenRow_keepsFobs (row : Instr) (f : Message → Nat → State → State)
    (hf : f ∈ [onCentral, onChild, onWindowreq, onEvidence, onState, onVehicle, onPinchTelegram, onSearchTelegram,
      onCrash]) : KeepsFobs sets s (taking row f s) :=
  taking_keepsFobs row f fun m n u _ => fobsGoOn_of_eq sets (owners_fobs m n u f hf)

/-- A FOBREPORT from the bus is counted after its evidence (R29, R167). -/
theorem fobreportRow_keepsFobs (row : Instr) : KeepsFobs false s (taking row onFobreport s) := by
  refine taking_keepsFobs row onFobreport fun m n u _ => ?_
  cases m
  case fobReport k r _ =>
    have h := takeReport_fobsGoOn false r (evidence k u)
    rw [evidence_fobs] at h
    exact h
  all_goals exact fobsGoOn_of_eq false rfl

/-- The SERVICE rows but ENROL leave the fobs alone (R173, R174). -/
theorem serviceRow_keepsFobs {row : Instr} (hrow : row ≠ .serviceEnrol) :
    KeepsFobs sets s (taking row onService s) := by
  refine taking_keepsFobs row onService fun m n u hm => fobsGoOn_of_eq sets ?_
  cases m
  case service k target args =>
    have hk : k ≠ .enrol := fun hk => hrow (by rw [← hm, hk]; rfl)
    exact (takeService_fobs_of_ne _ target args hk).trans (evidence_fobs u 7)
  all_goals rfl

theorem serviceEnrol_keepsFobs : KeepsFobs true s (taking .serviceEnrol onService s) := by
  refine taking_keepsFobs _ onService fun m n u _ => ?_
  cases m
  case service k target args _ =>
    have h := takeService_fobsGoOn k target args (evidence 7 u)
    rw [evidence_fobs] at h
    exact h
  all_goals exact fobsGoOn_of_eq true rfl

/-- Every command keeps the candidates ahead, and only those that set counters set one back. -/
theorem exec_keepsFobs (c : Instr) (s : State) : KeepsFobs (setsCounters c) s (exec c s) := by
  cases c <;> dsimp only [exec, setsCounters]
  case powerOn i =>
    refine goOn_keepsFobs ?_
    rw [conclude_fobs, start_frame]
    exact booted_fobsGoOn i s.fobs s
  case brownOut => exact event_keepsFobs _ _ fun _ => (booted_fobsGoOn (noInputs s.straps) s.fobs s)
  case supplyComparatorChange b => exact goOn_keepsFobs (fobsGoOn_of_eq false rfl)
  case serviceEnrol => exact serviceEnrol_keepsFobs
  case serviceOption | serviceClearfault | serviceForgetWindow => exact serviceRow_keepsFobs nofun
  case fobLock | fobUnlock | fobTailgate | fobCloseAll | fobOpenAll | fobSearchReply =>
    exact fobreportRow_keepsFobs _
  case rfByte v bad => exact event_keepsFobs _ _ fun _ => (rfByte_fobsGoOn v bad s)
  case dispatchDiscard => exact taking_keepsFobs _ _ fun _ _ _ _ => fobsGoOn_of_eq false rfl
  case stateTaken | vehicleTaken | faultTaken | serviceackTaken | lockreqLock | lockreqDeadlock | lockreqUnlock
      | lockreqChildOn | lockreqChildOff | windowreqManualUp | windowreqManualDown | windowreqAutoUp
      | windowreqAutoDown | windowreqStop | pinchTaken | searchTaken | crashTaken =>
    exact takenRow_keepsFobs _ _ (by simp)
  case attemptStart | attemptEnd | insideHandlePull | centralLockButton | centralUnlockButton | keyLockTurn
      | keyUnlockTurn | childSwitchChange | childButtonPress | windowSwitchChange =>
    refine event_keepsFobs_of_eq _ _ ?_
    dsimp only
    split <;> simp
  case latchOvercurrent | packRefreshExpiry =>
    refine event_keepsFobs_of_eq _ _ ?_
    split <;> simp
  case motorCurrentChange motor band =>
    refine event_keepsFobs_of_eq _ _ ?_
    cases motor
    · rfl
    · dsimp only
      split <;> rfl
  all_goals exact event_keepsFobs_of_eq _ _ (by simp)

/-- A step on an empty queue leaves the fobs alone. -/
theorem idleStep_fobs (s : State) : (idleStep s).fobs = s.fobs := by
  unfold idleStep
  split
  · rfl
  · split
    · rfl
    · exact elapse_fobs s Config.tick

end Sys2Proof.Machine

/-- Settles O10: every command takes the fob table on (`FobsGoOn`), and an idle step leaves it alone. -/
theorem fobCountersKept : Obligations.FobCountersKept := by
  intro s t h hs
  have hgo : ∃ sets, FobsGoOn sets s.fobs t.fobs ∧
      ((∀ c rest, s.pending = c :: rest → setsCounters c = false) → sets = false) := by
    unfold step at hs
    split at hs
    · rename_i c rest hp
      exact ⟨setsCounters c, exec_keepsFobs c { s with pending := rest } t hs, fun hc => hc c rest hp⟩
    · cases hs
      exact ⟨false, fobsGoOn_of_eq false (idleStep_fobs s), fun _ => rfl⟩
  obtain ⟨sets, hgo, hsets⟩ := hgo
  exact ⟨fun f => (hgo h f).1, fun hc f => (hgo h f).2 (hsets hc)⟩

end

section
/-! SUPPORT. The SERVICE telegrams (R172 to R174): the tests in order, and what the arguments spell. -/

open Sys2Proof Sys2Proof.Machine Sys2Proof.Safety Sys2Proof.Claims

namespace Sys2Proof.Machine

/-! ## The OPTION argument (section 1.9) -/

theorem upperSix_eq_zero_iff : ∀ b : Byte, b.extractLsb' 2 6 = 0#6 ↔ b.toNat ≤ 3 := by decide +kernel

theorem signedByte_eq (b : Byte) : signedByte b = b.toInt := rfl

section
variable (flags mode relock sTh : Byte) (offset : Fin 6 → Byte)

/-- The ten bytes of an OPTION argument. -/
def optionArgs : List Byte := [flags, mode, relock, sTh] ++ (List.finRange 6).map offset

theorem optionBytesValid_optionArgs_iff :
    optionBytesValid (optionArgs flags mode relock sTh offset) = true ↔
      flags.toNat ≤ 3 ∧ mode.toNat ≤ 1 ∧ (relock = 0 ∨ (30 ≤ relock.toNat ∧ relock.toNat ≤ 120)) ∧
        (20 ≤ sTh.toNat ∧ sTh.toNat ≤ 80) ∧ ∀ k, -32 ≤ (offset k).toInt ∧ (offset k).toInt ≤ 31 := by
  change optionBytesValid
    [flags, mode, relock, sTh, offset 0, offset 1, offset 2, offset 3, offset 4, offset 5] = true ↔ _
  simp [optionBytesValid, ← signedByte_eq, upperSix_eq_zero_iff, Fin.forall_fin_succ, and_assoc]

/-- The OPTION arguments that are bad: one of the values is out of its range (R172). -/
theorem badArgument_option_iff (s : State) :
    badArgument .option (optionArgs flags mode relock sTh offset) s = true ↔
      3 < flags.toNat ∨ 1 < mode.toNat ∨ (relock ≠ 0 ∧ (relock.toNat < 30 ∨ 120 < relock.toNat)) ∨
        sTh.toNat < 20 ∨ 80 < sTh.toNat ∨ ∃ k, (offset k).toInt < -32 ∨ 31 < (offset k).toInt := by
  rw [badArgument, Bool.not_eq_true', ← Bool.not_eq_true, optionBytesValid_optionArgs_iff]
  simp only [not_and_or, not_or, not_forall, not_le, or_assoc]

theorem decodeOption_optionArgs :
    decodeOption (optionArgs flags mode relock sTh offset) =
      some
        { selective := flags.getLsbD 0, driveAway := flags.getLsbD 1, regulate := decide (mode = 1)
          relock := relock.toNat, sTh := sTh.toNat
          offsets := Vector.ofFn fun k => (offset k).toInt } := rfl

end

/-! ## The tests in order (R172) -/

/-- The tests 2 to 4 of a SERVICE: no write is awaited, the vehicle stands with its ignition ON at an unlocked latch,
and the window whose record is to be forgotten is at rest (R172). -/
def ServiceReady (k : Subtype) (s : State) : Prop :=
  s.settings.awaited = none ∧ s.vehicle.ignition = .on ∧ s.vehicle.speed = some 0 ∧ s.latch.target = .unlocked ∧
    (k = .forgetWindow → s.window.move = none ∧ s.window.bridge = .off)

/-- The model's tests 2 to 4 are those of the statements. -/
theorem serviceReady_iff (k : Subtype) (s : State) :
    ServiceReady k s ↔
      s.settings.awaited.isSome = false ∧ serviceConditions s = true ∧ (k == .forgetWindow && windowBusy s) = false := by
  simp [ServiceReady, serviceConditions, windowBusy, and_assoc]

section
variable {k : Subtype} {target : Byte} {args : List Byte} {s : State}

theorem takeService_of_other (h : target.toNat ≠ s.straps.position.val) : takeService k target args s = s := if_pos h

theorem takeService_of_badArgument (h : target.toNat = s.straps.position.val) (hb : badArgument k args s = true) :
    takeService k target args s = placeAnswer k 4 s :=
  (if_neg (not_not_intro h)).trans (if_pos hb)

/-- A station that one of the tests 2 to 4 fails at refuses (R172). -/
theorem takeService_of_not_ready (h : target.toNat = s.straps.position.val) (hb : badArgument k args s = false)
    (hr : ¬ ServiceReady k s) : takeService k target args s = placeAnswer k 2 s := by
  refine (if_neg (not_not_intro h)).trans ((if_neg (by simp [hb])).trans ?_)
  split_ifs with hawaited hconditions hbusy
  · rfl
  · rfl
  · rfl
  · exact absurd ((serviceReady_iff k s).mpr (by simp_all)) hr

theorem takeService_of_ready (h : target.toNat = s.straps.position.val) (hb : badArgument k args s = false)
    (hr : ServiceReady k s) : takeService k target args s = applyService k args s := by
  obtain ⟨hawaited, hconditions, hbusy⟩ := (serviceReady_iff k s).mp hr
  simp [takeService, ownNumber, h, hb, hawaited, hconditions, hbusy]

end

/-! ## The rows -/

/-- The four rows of SERVICE have one meaning. -/
theorem exec_serviceRow (k : Subtype) (target : Byte) (args : List Byte) (s : State) :
    exec (takingOf (.service k target args)) s = taking (takingOf (.service k target args)) onService s := by
  cases k <;> rfl

/-- A SERVICE is taken under the row of its subtype, after the evidence of node 7 (R29, R172). -/
theorem serviceRow_of_takes {k : Subtype} {target : Byte} {args : List Byte} {s : State} {t : Nat}
    (h : takes s (.service k target args) t) :
    exec (takingOf (.service k target args)) s =
      .next (conclude (takeService k target args (evidence 7 (popped s)))) :=
  (exec_serviceRow k target args s).trans (taking_of_takes onService h rfl)

end Sys2Proof.Machine

/-- Settles O31: the arguments and the answer, and the tests of an own SERVICE after its evidence. -/
theorem serviceRows : Obligations.ServiceRows := by
  refine ⟨fun args s => ⟨decide_eq_true_iff, isTailgate_iff s, rfl⟩, fun flags mode relock sTh offset s =>
    ⟨badArgument_option_iff flags mode relock sTh offset s, decodeOption_optionArgs flags mode relock sTh offset⟩,
    fun _ _ _ _ _ _ _ _ => rfl, fun k result s => by cases k <;> rfl, fun s k target args t h => ?_⟩
  intro c s1 ready
  have hx : exec c s = .next (conclude (takeService k target args s1)) := by
    cases k <;> exact serviceRow_of_takes h
  have hpos : s1.straps.position = s.straps.position := by simp [s1]
  refine ⟨fun hn => ?_, fun ho => ⟨fun hb => ?_, fun hb hr => ?_, fun hb hr => ?_⟩⟩
  · rw [hx, takeService_of_other (hpos ▸ hn)]
  · rw [hx, takeService_of_badArgument (hpos ▸ ho) hb]
  · rw [hx, takeService_of_not_ready (hpos ▸ ho) hb hr]
  · rw [hx, takeService_of_ready (hpos ▸ ho) hb hr]
    cases k
    case option =>
      dsimp only [applyService, applyOption]
      cases decodeOption args <;> rfl
    all_goals rfl

end

section
/-! SUPPORT. The RF frame receiver (R166, R167): the checks byte by byte, the report that a frame spells, and the
relay. -/

open Sys2Proof Sys2Proof.Machine Sys2Proof.Safety Sys2Proof.Claims

namespace Sys2Proof.Machine

/-! ## The bytes of a frame -/

/-- The search number byte names nothing, or a station and a count from 1 to 31 (R167). -/
theorem frameNumberValid_iff (b : Byte) :
    frameNumberValid b = true ↔
      b = 0 ∨ ∃ st c : Nat, st ≤ 4 ∧ 1 ≤ c ∧ c ≤ 31 ∧ b.toNat = st * 32 + c := by
  have hparts : ∀ b : Byte, frameNumberValid b = true ↔ b = 0#8 ∨ (b.toNat % 32 ≠ 0 ∧ b.toNat / 32 ≤ 4) := by
    decide +kernel
  rw [hparts]
  refine or_congr_right ⟨fun ⟨hc, hst⟩ => ⟨b.toNat / 32, b.toNat % 32, by omega⟩, fun ⟨st, c, h⟩ => by omega⟩

/-- A third byte that names a fob and a button. -/
def ButtonByte (b : Byte) : Prop := b.toNat / 16 % 4 = 0 ∧ 1 ≤ b.toNat % 16 ∧ b.toNat % 16 ≤ 5

/-- A third byte that names a fob and the search reply. -/
def ReplyByte (b : Byte) : Prop := b.toNat / 16 % 4 = 0 ∧ b.toNat % 16 = 6

section
variable {number third : Byte}

theorem frameLength_of_button (hn : number = 0) (h : ButtonByte third) : frameLength number third = some 10 := by
  obtain ⟨⟨f, command⟩, hb, hc⟩ := (decodeFobByte_button_iff third).mpr h
  have hb : decodeFobByte third = some (f, command) := hb
  unfold frameLength
  rw [hb]
  cases command
  case searchReply => exact absurd rfl hc
  all_goals exact if_pos hn

theorem frameLength_of_reply (hn : number ≠ 0) (h : ReplyByte third) : frameLength number third = some 16 := by
  obtain ⟨⟨f, command⟩, hb, hc⟩ := (decodeFobByte_reply_iff third).mpr h
  have hb : decodeFobByte third = some (f, command) := hb
  have hc : command = .searchReply := hc
  subst hc
  unfold frameLength
  rw [hb]
  exact if_neg hn

/-- A third byte that names no command, or one that does not agree with the search number, fails its check (R167). -/
theorem frameLength_of_neither (hbutton : ¬ (number = 0 ∧ ButtonByte third))
    (hreply : ¬ (number ≠ 0 ∧ ReplyByte third)) : frameLength number third = none := by
  unfold frameLength
  split
  · rename_i f hb
    exact if_pos (by_contra fun hn => hreply ⟨hn, (decodeFobByte_reply_iff third).mp ⟨_, hb, rfl⟩⟩)
  · rename_i f command hc hb
    exact if_neg fun hn => hbutton ⟨hn, (decodeFobByte_button_iff third).mp ⟨_, hb, hc⟩⟩
  · rfl

/-! ## The checks as the bytes arrive (R167) -/

theorem checkFrame_of_number (sync number : Byte) :
    checkFrame [sync, number] = if frameNumberValid number = true then .goesOn else .dropped := rfl

variable {sync : Byte} {rest : List Byte}

theorem checkFrame_of_length {n : Nat} (h : frameLength number third = some n) :
    checkFrame (sync :: number :: third :: rest) = if rest.length + 3 < n then .goesOn else .complete := by
  simp only [checkFrame, h]

theorem checkFrame_of_no_length (h : frameLength number third = none) :
    checkFrame (sync :: number :: third :: rest) = .dropped := by
  simp only [checkFrame, h]

end

/-! ## The report that a frame spells -/

/-- The third byte holds the fob number above its command (section 1.9). -/
theorem decodeFobByte_of_command {b : Byte} {command : FobCommand} (h : b.toNat / 16 % 4 = 0)
    (hc : fobCommandOf (BitVec.ofNat 4 (b.toNat % 16)) = some command) :
    decodeFobByte b = some (⟨b.toNat / 64, by have := b.isLt; omega⟩, command) := by
  have hzero : ∀ b : Byte, b.toNat / 16 % 4 = 0 → b.extractLsb' 4 2 = 0#2 := by decide +kernel
  have hfob : ∀ b : Byte, (b.extractLsb' 6 2).toNat = b.toNat / 64 := by decide +kernel
  have hcode : ∀ b : Byte, b.extractLsb' 0 4 = BitVec.ofNat 4 (b.toNat % 16) := by decide +kernel
  refine (if_pos (hzero b h)).trans ?_
  rw [hcode, hc]
  exact congrArg (fun f => some (f, command)) (Fin.ext (hfob b))

/-! ## The receiver (R166) -/

section
variable {v : Byte} {bad : Bool} {s : State}

/-- The sync byte wakes a sleeping station and begins a frame (R166, R180). -/
theorem rfByte_of_sync (hp : s.rf.phase = .idle) (hv : v = 0x5A) (hb : bad = false) :
    rfByte v bad s = { wake s with rf := { phase := .assembling, bytes := [0x5A], gap := 0 } } := by
  simp only [rfByte, hp]
  exact (if_pos ⟨hv, hb⟩).trans (by rw [hv]; rfl)

theorem rfByte_of_idle (hp : s.rf.phase = .idle) (h : v ≠ 0x5A ∨ bad = true) : rfByte v bad s = s := by
  simp only [rfByte, hp]
  exact if_neg fun ⟨hv, hb⟩ => h.elim (· hv) (by simp [hb])

theorem rfByte_of_quiet (hp : s.rf.phase = .quiet) : rfByte v bad s = { s with rf := { s.rf with gap := 0 } } := by
  simp only [rfByte, hp, onRf]

theorem rfByte_of_assembling (hp : s.rf.phase = .assembling) : rfByte v bad s = assemble v bad s := by
  simp only [rfByte, hp]

theorem assemble_of_dropped (h : bad = true ∨ checkFrame (s.rf.bytes ++ [v]) = .dropped) :
    assemble v bad s = { s with rf := { phase := .quiet, bytes := [], gap := 0 } } := by
  cases bad
  · simp only [assemble, h.resolve_left nofun]
    rfl
  · rfl

theorem assemble_of_goesOn (hb : bad = false) (h : checkFrame (s.rf.bytes ++ [v]) = .goesOn) :
    assemble v bad s = { s with rf := { phase := .assembling, bytes := s.rf.bytes ++ [v], gap := 0 } } := by
  simp only [assemble, hb, h]
  rfl

/-- A complete frame is relayed as it came, and taken (R167). -/
theorem assemble_of_complete {r : FobReport} (hb : bad = false) (h : checkFrame (s.rf.bytes ++ [v]) = .complete)
    (hr : decodeFobReport ((s.rf.bytes ++ [v]).drop 1) = some r) :
    assemble v bad s =
      takeReport true r
        (place { kind := 6, sender := BitVec.ofFin s.straps.position, payload := (s.rf.bytes ++ [v]).drop 1 }
          { s with rf := { phase := .idle, bytes := [], gap := 0 } }).1 := by
  simp only [assemble, hb, h, frameComplete, hr]
  rfl

end

end Sys2Proof.Machine

/-- Settles O36: the checks at each length, the report by its command, and the rows by the receiver's phase. -/
theorem rfRows : Obligations.RfRows := by
  refine ⟨fun bytes => ?_, fun x b c2 c1 c0 t3 t2 t1 t0 hzero => ⟨fun k hk hx => ?_,
    fun r0 r1 r2 r3 r4 r5 hk h0 hx => ?_⟩, fun s ho hrf => ?_⟩
  · match bytes with
    | [] => simp [checkFrame]
    | [sync] => simp [checkFrame]
    | [sync, number] =>
      refine ⟨by simp, fun _ => ⟨fun h => ?_, fun h => ?_⟩, by simp⟩
      · exact if_pos ((frameNumberValid_iff number).mpr h)
      · exact if_neg ((frameNumberValid_iff number).not.mpr h)
    | sync :: number :: third :: rest =>
      refine ⟨by simp, by simp, fun _ => ⟨fun h hl => ?_, fun h hl => ?_, fun h hl => ?_, fun h hl => ?_,
        fun hb hr => checkFrame_of_no_length (frameLength_of_neither hb hr)⟩⟩
      · exact (checkFrame_of_length (frameLength_of_button h.1 h.2)).trans (if_pos hl)
      · exact (checkFrame_of_length (frameLength_of_button h.1 h.2)).trans (if_neg (not_lt.mpr hl))
      · exact (checkFrame_of_length (frameLength_of_reply h.1 h.2)).trans (if_pos hl)
      · exact (checkFrame_of_length (frameLength_of_reply h.1 h.2)).trans (if_neg (not_lt.mpr hl))
  · subst hx
    have hb : ∀ command, fobCommandOf (BitVec.ofNat 4 (k.val + 1)) = some command →
        decodeFobByte b = some (⟨b.toNat / 64, by have := b.isLt; omega⟩, command) :=
      fun command hc => decodeFobByte_of_command hzero (hk ▸ hc)
    fin_cases k <;> exact decodeFobReport_of_button (hb _ rfl) c2 c1 c0 t3 t2 t1 t0 nofun
  · have hb := decodeFobByte_of_command (command := .searchReply) hzero (by rw [hk]; rfl)
    exact decodeFobReport_of_reply hb c2 c1 c0 t3 t2 t1 t0 r0 r1 r2 r3 r4 r5 rfl h0 hx
  · have hrow : ∀ v bad, exec (.rfByte v bad) s = .next (conclude (rfByte v bad s)) := fun v bad =>
      event_of_true s _ (by simp [ho, hrf])
    have hgap : s.rf.phase ≠ .idle → exec .rfGapTimeout s = .next (conclude (onRf rfGap s)) := fun hp =>
      event_of_true s _ (by simp [ho, hrf, hp])
    refine ⟨fun v bad => ⟨fun hp hv hb => ?_, fun hp h => ?_, fun hp => ?_, fun hp h => ?_, fun hp hb h => ?_,
      fun r hp hb h hr => ?_⟩, fun hp => ?_, fun hp => ?_⟩
    · rw [hrow, rfByte_of_sync hp hv hb]
    · rw [hrow, rfByte_of_idle hp h]
    · rw [hrow, rfByte_of_quiet hp]
    · rw [hrow, rfByte_of_assembling hp, assemble_of_dropped h]
    · rw [hrow, rfByte_of_assembling hp, assemble_of_goesOn hb h]
    · rw [hrow, rfByte_of_assembling hp, assemble_of_complete hb h hr]
    · rw [hgap (by simp [hp]), onRf, rfGap, hp]
      rfl
    · rw [hgap (by simp [hp]), onRf, rfGap, hp]

end

section
/-! SUPPORT. The step on a waiting command, and the nine bytes of a STATE as numbers (section 1.9). -/

open Sys2Proof Sys2Proof.Machine Sys2Proof.Safety Sys2Proof.Claims

namespace Sys2Proof.Machine

/-! ## The step on a waiting command -/

theorem step_of_pending {c : Instr} {rest : List Instr} {s : State} (h : s.pending = c :: rest) :
    step s = exec c { s with pending := rest } := by
  rw [step, h]

/-! ## The bytes of a STATE (section 1.9) -/

/-- The flags byte of a STATE is the sum of its flags' places. -/
theorem stateFlags_eq_ofNat (c : StateContents) :
    stateFlags c =
      BitVec.ofNat 8
        ((if c.doorOpen = true then 1 else 0) + (if c.sleeping = true then 2 else 0) +
          (if c.crashHold = true then 4 else 0) + (if c.childOn = true then 8 else 0) +
          (if c.joining = true then 16 else 0)) := by
  have h : ∀ door sleeping crash child joining : Bool,
      (0 : BitVec 3) ++ BitVec.ofBool joining ++ BitVec.ofBool child ++ BitVec.ofBool crash ++
          BitVec.ofBool sleeping ++ BitVec.ofBool door =
        BitVec.ofNat 8
          ((if door = true then 1 else 0) + (if sleeping = true then 2 else 0) +
            (if crash = true then 4 else 0) + (if child = true then 8 else 0) +
            (if joining = true then 16 else 0)) := by decide
  exact h ..

/-- A byte of two codes holds sixteen times the upper one and the lower one. -/
theorem halves_eq_ofNat {hi lo : BitVec 4} {m n : Nat} (hm : hi.toNat = m) (hn : lo.toNat = n) :
    halves hi lo = BitVec.ofNat 8 (16 * m + n) := by
  have hbyte : ∀ hi lo : BitVec 4, halves hi lo = BitVec.ofNat 8 (16 * hi.toNat + lo.toNat) := by decide
  rw [hbyte, hm, hn]

theorem verdictCode_outsideAt (d : Fin 5) : (verdictCode (.outsideAt d)).toNat = 3 + d.val := by
  revert d; decide

theorem verdictCode_outsideNear (d : Fin 5) : (verdictCode (.outsideNear d)).toNat = 8 + d.val := by
  revert d; decide

end Sys2Proof.Machine

/-- Settles O3: a power-on goes on from its start, and every other command keeps the commands that wait with the
straps (`exec_keepsInputs`). -/
theorem everyCommandGoesOn : Obligations.EveryCommandGoesOn := by
  intro c s
  by_cases hpower : ∃ i, c = .powerOn i
  · obtain ⟨i, rfl⟩ := hpower
    exact ⟨conclude (start i s), rfl, (conclude_kept _).1.trans (start_inputs i s).1⟩
  · obtain ⟨t, hexec, hpending, -⟩ := exec_keepsInputs (s := s) c fun i hi => hpower ⟨i, hi⟩
    exact ⟨t, hexec, hpending⟩

/-- Settles O13: the two readings are inverse (`decodeState_iff`), and each byte of two codes is read off code by
code. -/
theorem stateEncodingRoundTrip : Obligations.StateEncodingRoundTrip := by
  refine ⟨decodeState_iff, fun c => ?_⟩
  simp only [encodeState, List.cons.injEq, and_true, true_and]
  refine ⟨stateFlags_eq_ofNat c, halves_eq_ofNat ?_ ?_, halves_eq_ofNat ?_ ?_, halves_eq_ofNat ?_ ?_⟩
  · cases c.observed <;> rfl
  · cases c.target <;> rfl
  · cases c.windowClass <;> rfl
  · cases c.knowledge <;> rfl
  · cases c.verdict with
    | none | notFound | inside => rfl
    | outsideAt d => exact verdictCode_outsideAt d
    | outsideNear d => exact verdictCode_outsideNear d
  · cases c.refusal <;> rfl

/-- Settles O1: the step matches on the queue. -/
theorem stepRunsFrontCommand : Obligations.StepRunsFrontCommand :=
  fun _ _ _ => step_of_pending

end
